-- ==== Sys2Proof/Word.lean ====
section
/-! DEFINITION. The words of the machine: byte, word, the 80-bit floating-point datum (00_scope R9, R11; 10_state R50). -/

namespace Sys2Proof

/-- The byte: 8 bits (00_scope R11). -/
abbrev Byte := BitVec 8

/-- The word: 16 bits; a general register, a selector, an offset (00_scope R9, R11). -/
abbrev Word := BitVec 16

/-- A datum in the x80 format: sign, 15-bit biased exponent, 64-bit significand (46_x87_numerics R341). -/
abbrev F80 := BitVec 80

end Sys2Proof
end

