-- ==== Sys2Proof/Config.lean ====
section
/-! DEFINITION. What the spec fixes for the life of a core instance and does not let an instruction change
(00_scope R12): the length limit, and `UF`, the one open value of the instruction set. The two host handlers,
whose type mentions the state, stand in Machine/HostConfig.lean; the parameters with plain values stand in
`State.params` (LOG 3). -/

namespace Sys2Proof

/-- The six status flags as one value (10_state R40). -/
structure StatusFlags where
  CF : Bool
  PF : Bool
  AF : Bool
  ZF : Bool
  SF : Bool
  OF : Bool
deriving DecidableEq, Repr, Inhabited

/-- The mnemonics that `UF` is applied to: the instructions with a `U` cell in 10_state R46. -/
inductive UfMnemonic where
  | AND | OR | XOR | TEST
  | MUL | IMUL | DIV | IDIV
  | SHL | SHR | SAR | ROL | ROR | RCL | RCR
deriving DecidableEq, Repr

/-- What `FPU_RING_POLICY` may be (00_scope R12, 47_x87_instructions R392, R394). -/
inductive RingPolicy where
  | wrap
  | fault
deriving DecidableEq, Repr

/-- `MAX_INSN_LEN` (00_scope R12, 30_encoding R127). -/
def Config.maxInsnLen : Nat := 15

/-- `UF` of 00_scope R12 and 10_state R47, an uninterpreted function of mnemonic, width, the two operand values
and the carry-in: the values of the status flags that the processor family leaves undefined.
It has no body, so every statement holds whatever it is (LOG 4). -/
opaque Config.UF : UfMnemonic → Nat → Int → Int → Bool → StatusFlags

end Sys2Proof
end

