-- ==== Sys2Proof/Syntax.lean ====
section
/-! DEFINITION. The syntax of the instruction set, whole: one constructor of `Instr` for each row of
spec/opcode_table.json, with its operands as the decoder produces them (30_encoding R122, R129 to R136).
A memory operand carries the segment register already resolved (the override if one is present, else the default);
a string instruction carries its repeat prefix. The seven prefix rows are constructors that wrap the instruction
they precede (LOG 1). -/

namespace Sys2Proof

/-- The word registers, in the order of their numbers 0..7 (10_state R30). -/
inductive R16 where
  | ax | cx | dx | bx | sp | bp | si | di
deriving DecidableEq, Repr

/-- The byte registers, in the order of their numbers 0..7 (10_state R32). -/
inductive R8 where
  | al | cl | dl | bl | ah | ch | dh | bh
deriving DecidableEq, Repr

/-- The segment registers, in the order of their numbers 0..3 (10_state R33). -/
inductive SReg where
  | es | cs | ss | ds
deriving DecidableEq, Repr

/-- The eight register sums of the effective address, in the order of the `r/m` field (30_encoding R130). -/
inductive Base where
  | bxsi | bxdi | bpsi | bpdi | si | di | bp | bx
deriving DecidableEq, Repr

/-- An effective address as it is encoded: a register sum with no, an 8-bit or a 16-bit displacement
(`mod` = 00, 01, 10), or a direct 16-bit offset (`mod` = 00 with `r/m` = 110) (30_encoding R130). -/
inductive Ea where
  | plain (b : Base)
  | disp8 (b : Base) (d : Byte)
  | disp16 (b : Base) (d : Word)
  | direct (d : Word)
deriving DecidableEq, Repr

/-- A memory operand: the segment register its selector is read from, and the effective address
(30_encoding R122, R131). -/
structure Mem where
  seg : SReg
  ea  : Ea
deriving DecidableEq, Repr

/-- An `r/m` operand over registers of kind `ρ` (30_encoding R129). -/
inductive Rm (ρ : Type) where
  | reg (r : ρ)
  | mem (m : Mem)
deriving DecidableEq, Repr

abbrev Rm8 := Rm R8
abbrev Rm16 := Rm R16

/-- The two repeat prefixes, `F2` and `F3` (30_encoding R123). -/
inductive Rep where
  | repne
  | rep
deriving DecidableEq, Repr

/-- The index `i` of `ST(i)` in an encoding: 3 bits (10_state R51). -/
abbrev StIdx := BitVec 3

/-- One constructor for each row of spec/opcode_table.json, in the table's order; the comment is the row's
encoding and assembler form. An 8-bit immediate that the instruction sign-extends is kept as the byte it is. -/
inductive Instr where
  | addRm8R8 (d : Rm8) (r : R8)  -- 00: ADD r/m8, r8
  | addRm16R16 (d : Rm16) (r : R16)  -- 01: ADD r/m16, r16
  | addR8Rm8 (r : R8) (x : Rm8)  -- 02: ADD r8, r/m8
  | addR16Rm16 (r : R16) (x : Rm16)  -- 03: ADD r16, r/m16
  | addAlImm8 (imm : Byte)  -- 04: ADD AL, imm8
  | addAxImm16 (imm : Word)  -- 05: ADD AX, imm16
  | orRm8R8 (d : Rm8) (r : R8)  -- 08: OR r/m8, r8
  | orRm16R16 (d : Rm16) (r : R16)  -- 09: OR r/m16, r16
  | orR8Rm8 (r : R8) (x : Rm8)  -- 0A: OR r8, r/m8
  | orR16Rm16 (r : R16) (x : Rm16)  -- 0B: OR r16, r/m16
  | orAlImm8 (imm : Byte)  -- 0C: OR AL, imm8
  | orAxImm16 (imm : Word)  -- 0D: OR AX, imm16
  | adcRm8R8 (d : Rm8) (r : R8)  -- 10: ADC r/m8, r8
  | adcRm16R16 (d : Rm16) (r : R16)  -- 11: ADC r/m16, r16
  | adcR8Rm8 (r : R8) (x : Rm8)  -- 12: ADC r8, r/m8
  | adcR16Rm16 (r : R16) (x : Rm16)  -- 13: ADC r16, r/m16
  | adcAlImm8 (imm : Byte)  -- 14: ADC AL, imm8
  | adcAxImm16 (imm : Word)  -- 15: ADC AX, imm16
  | sbbRm8R8 (d : Rm8) (r : R8)  -- 18: SBB r/m8, r8
  | sbbRm16R16 (d : Rm16) (r : R16)  -- 19: SBB r/m16, r16
  | sbbR8Rm8 (r : R8) (x : Rm8)  -- 1A: SBB r8, r/m8
  | sbbR16Rm16 (r : R16) (x : Rm16)  -- 1B: SBB r16, r/m16
  | sbbAlImm8 (imm : Byte)  -- 1C: SBB AL, imm8
  | sbbAxImm16 (imm : Word)  -- 1D: SBB AX, imm16
  | andRm8R8 (d : Rm8) (r : R8)  -- 20: AND r/m8, r8
  | andRm16R16 (d : Rm16) (r : R16)  -- 21: AND r/m16, r16
  | andR8Rm8 (r : R8) (x : Rm8)  -- 22: AND r8, r/m8
  | andR16Rm16 (r : R16) (x : Rm16)  -- 23: AND r16, r/m16
  | andAlImm8 (imm : Byte)  -- 24: AND AL, imm8
  | andAxImm16 (imm : Word)  -- 25: AND AX, imm16
  | subRm8R8 (d : Rm8) (r : R8)  -- 28: SUB r/m8, r8
  | subRm16R16 (d : Rm16) (r : R16)  -- 29: SUB r/m16, r16
  | subR8Rm8 (r : R8) (x : Rm8)  -- 2A: SUB r8, r/m8
  | subR16Rm16 (r : R16) (x : Rm16)  -- 2B: SUB r16, r/m16
  | subAlImm8 (imm : Byte)  -- 2C: SUB AL, imm8
  | subAxImm16 (imm : Word)  -- 2D: SUB AX, imm16
  | xorRm8R8 (d : Rm8) (r : R8)  -- 30: XOR r/m8, r8
  | xorRm16R16 (d : Rm16) (r : R16)  -- 31: XOR r/m16, r16
  | xorR8Rm8 (r : R8) (x : Rm8)  -- 32: XOR r8, r/m8
  | xorR16Rm16 (r : R16) (x : Rm16)  -- 33: XOR r16, r/m16
  | xorAlImm8 (imm : Byte)  -- 34: XOR AL, imm8
  | xorAxImm16 (imm : Word)  -- 35: XOR AX, imm16
  | cmpRm8R8 (d : Rm8) (r : R8)  -- 38: CMP r/m8, r8
  | cmpRm16R16 (d : Rm16) (r : R16)  -- 39: CMP r/m16, r16
  | cmpR8Rm8 (r : R8) (x : Rm8)  -- 3A: CMP r8, r/m8
  | cmpR16Rm16 (r : R16) (x : Rm16)  -- 3B: CMP r16, r/m16
  | cmpAlImm8 (imm : Byte)  -- 3C: CMP AL, imm8
  | cmpAxImm16 (imm : Word)  -- 3D: CMP AX, imm16
  | pushEs  -- 06: PUSH ES
  | pushCs  -- 0E: PUSH CS
  | pushSs  -- 16: PUSH SS
  | pushDs  -- 1E: PUSH DS
  | popEs  -- 07: POP ES
  | popSs  -- 17: POP SS
  | popDs  -- 1F: POP DS
  | esPrefix (i : Instr)  -- 26: ES: (segment override prefix)
  | csPrefix (i : Instr)  -- 2E: CS: (segment override prefix)
  | ssPrefix (i : Instr)  -- 36: SS: (segment override prefix)
  | dsPrefix (i : Instr)  -- 3E: DS: (segment override prefix)
  | incR16 (r : R16)  -- 40: INC r16
  | decR16 (r : R16)  -- 48: DEC r16
  | pushR16 (r : R16)  -- 50: PUSH r16
  | popR16 (r : R16)  -- 58: POP r16
  | pusha  -- 60: PUSHA
  | popa  -- 61: POPA
  | boundR16M1616 (r : R16) (m : Mem)  -- 62: BOUND r16, m16&16
  | pushImm16 (imm : Word)  -- 68: PUSH imm16
  | imulR16Rm16Imm16 (r : R16) (x : Rm16) (imm : Word)  -- 69: IMUL r16, r/m16, imm16
  | pushImm8 (imm : Byte)  -- 6A: PUSH imm8
  | imulR16Rm16Imm8 (r : R16) (x : Rm16) (imm : Byte)  -- 6B: IMUL r16, r/m16, imm8
  | joRel8 (rel : Byte)  -- 70: JO rel8
  | jnoRel8 (rel : Byte)  -- 71: JNO rel8
  | jbRel8 (rel : Byte)  -- 72: JB rel8
  | jnbRel8 (rel : Byte)  -- 73: JNB rel8
  | jzRel8 (rel : Byte)  -- 74: JZ rel8
  | jnzRel8 (rel : Byte)  -- 75: JNZ rel8
  | jbeRel8 (rel : Byte)  -- 76: JBE rel8
  | jnbeRel8 (rel : Byte)  -- 77: JNBE rel8
  | jsRel8 (rel : Byte)  -- 78: JS rel8
  | jnsRel8 (rel : Byte)  -- 79: JNS rel8
  | jpRel8 (rel : Byte)  -- 7A: JP rel8
  | jnpRel8 (rel : Byte)  -- 7B: JNP rel8
  | jlRel8 (rel : Byte)  -- 7C: JL rel8
  | jnlRel8 (rel : Byte)  -- 7D: JNL rel8
  | jleRel8 (rel : Byte)  -- 7E: JLE rel8
  | jnleRel8 (rel : Byte)  -- 7F: JNLE rel8
  | addRm8Imm8 (d : Rm8) (imm : Byte)  -- 8000: ADD r/m8, imm8
  | orRm8Imm8 (d : Rm8) (imm : Byte)  -- 8008: OR r/m8, imm8
  | adcRm8Imm8 (d : Rm8) (imm : Byte)  -- 8010: ADC r/m8, imm8
  | sbbRm8Imm8 (d : Rm8) (imm : Byte)  -- 8018: SBB r/m8, imm8
  | andRm8Imm8 (d : Rm8) (imm : Byte)  -- 8020: AND r/m8, imm8
  | subRm8Imm8 (d : Rm8) (imm : Byte)  -- 8028: SUB r/m8, imm8
  | xorRm8Imm8 (d : Rm8) (imm : Byte)  -- 8030: XOR r/m8, imm8
  | cmpRm8Imm8 (d : Rm8) (imm : Byte)  -- 8038: CMP r/m8, imm8
  | addRm16Imm16 (d : Rm16) (imm : Word)  -- 8100: ADD r/m16, imm16
  | orRm16Imm16 (d : Rm16) (imm : Word)  -- 8108: OR r/m16, imm16
  | adcRm16Imm16 (d : Rm16) (imm : Word)  -- 8110: ADC r/m16, imm16
  | sbbRm16Imm16 (d : Rm16) (imm : Word)  -- 8118: SBB r/m16, imm16
  | andRm16Imm16 (d : Rm16) (imm : Word)  -- 8120: AND r/m16, imm16
  | subRm16Imm16 (d : Rm16) (imm : Word)  -- 8128: SUB r/m16, imm16
  | xorRm16Imm16 (d : Rm16) (imm : Word)  -- 8130: XOR r/m16, imm16
  | cmpRm16Imm16 (d : Rm16) (imm : Word)  -- 8138: CMP r/m16, imm16
  | addRm16Imm8 (d : Rm16) (imm : Byte)  -- 8300: ADD r/m16, imm8
  | orRm16Imm8 (d : Rm16) (imm : Byte)  -- 8308: OR r/m16, imm8
  | adcRm16Imm8 (d : Rm16) (imm : Byte)  -- 8310: ADC r/m16, imm8
  | sbbRm16Imm8 (d : Rm16) (imm : Byte)  -- 8318: SBB r/m16, imm8
  | andRm16Imm8 (d : Rm16) (imm : Byte)  -- 8320: AND r/m16, imm8
  | subRm16Imm8 (d : Rm16) (imm : Byte)  -- 8328: SUB r/m16, imm8
  | xorRm16Imm8 (d : Rm16) (imm : Byte)  -- 8330: XOR r/m16, imm8
  | cmpRm16Imm8 (d : Rm16) (imm : Byte)  -- 8338: CMP r/m16, imm8
  | testRm8R8 (d : Rm8) (r : R8)  -- 84: TEST r/m8, r8
  | testRm16R16 (d : Rm16) (r : R16)  -- 85: TEST r/m16, r16
  | xchgR8Rm8 (r : R8) (x : Rm8)  -- 86: XCHG r8, r/m8
  | xchgR16Rm16 (r : R16) (x : Rm16)  -- 87: XCHG r16, r/m16
  | movRm8R8 (d : Rm8) (r : R8)  -- 88: MOV r/m8, r8
  | movRm16R16 (d : Rm16) (r : R16)  -- 89: MOV r/m16, r16
  | movR8Rm8 (r : R8) (x : Rm8)  -- 8A: MOV r8, r/m8
  | movR16Rm16 (r : R16) (x : Rm16)  -- 8B: MOV r16, r/m16
  | movRm16Es (d : Rm16)  -- 8C00: MOV r/m16, ES
  | movRm16Cs (d : Rm16)  -- 8C08: MOV r/m16, CS
  | movRm16Ss (d : Rm16)  -- 8C10: MOV r/m16, SS
  | movRm16Ds (d : Rm16)  -- 8C18: MOV r/m16, DS
  | leaR16M (r : R16) (m : Mem)  -- 8D: LEA r16, m
  | movEsRm16 (d : Rm16)  -- 8E00: MOV ES, r/m16
  | movSsRm16 (d : Rm16)  -- 8E10: MOV SS, r/m16
  | movDsRm16 (d : Rm16)  -- 8E18: MOV DS, r/m16
  | popRm16 (d : Rm16)  -- 8F00: POP r/m16
  | nop  -- 90: NOP
  | xchgAxCx  -- 91: XCHG AX, CX
  | xchgAxDx  -- 92: XCHG AX, DX
  | xchgAxBx  -- 93: XCHG AX, BX
  | xchgAxSp  -- 94: XCHG AX, SP
  | xchgAxBp  -- 95: XCHG AX, BP
  | xchgAxSi  -- 96: XCHG AX, SI
  | xchgAxDi  -- 97: XCHG AX, DI
  | cbw  -- 98: CBW
  | cwd  -- 99: CWD
  | callPtr1616 (off : Word) (sel : Word)  -- 9A: CALL ptr16:16
  | wait  -- 9B: WAIT
  | pushf  -- 9C: PUSHF
  | popf  -- 9D: POPF
  | sahf  -- 9E: SAHF
  | lahf  -- 9F: LAHF
  | movAlMoffs8 (seg : SReg) (off : Word)  -- A0: MOV AL, moffs8
  | movAxMoffs16 (seg : SReg) (off : Word)  -- A1: MOV AX, moffs16
  | movMoffs8Al (seg : SReg) (off : Word)  -- A2: MOV moffs8, AL
  | movMoffs16Ax (seg : SReg) (off : Word)  -- A3: MOV moffs16, AX
  | movsb (seg : SReg) (rep : Option Rep)  -- A4: MOVSB
  | movsw (seg : SReg) (rep : Option Rep)  -- A5: MOVSW
  | cmpsb (seg : SReg) (rep : Option Rep)  -- A6: CMPSB
  | cmpsw (seg : SReg) (rep : Option Rep)  -- A7: CMPSW
  | testAlImm8 (imm : Byte)  -- A8: TEST AL, imm8
  | testAxImm16 (imm : Word)  -- A9: TEST AX, imm16
  | stosb (rep : Option Rep)  -- AA: STOSB
  | stosw (rep : Option Rep)  -- AB: STOSW
  | lodsb (seg : SReg) (rep : Option Rep)  -- AC: LODSB
  | lodsw (seg : SReg) (rep : Option Rep)  -- AD: LODSW
  | scasb (rep : Option Rep)  -- AE: SCASB
  | scasw (rep : Option Rep)  -- AF: SCASW
  | movR8Imm8 (r : R8) (imm : Byte)  -- B0: MOV r8, imm8
  | movR16Imm16 (r : R16) (imm : Word)  -- B8: MOV r16, imm16
  | rolRm8Imm8 (d : Rm8) (imm : Byte)  -- C000: ROL r/m8, imm8
  | rorRm8Imm8 (d : Rm8) (imm : Byte)  -- C008: ROR r/m8, imm8
  | rclRm8Imm8 (d : Rm8) (imm : Byte)  -- C010: RCL r/m8, imm8
  | rcrRm8Imm8 (d : Rm8) (imm : Byte)  -- C018: RCR r/m8, imm8
  | shlRm8Imm8 (d : Rm8) (imm : Byte)  -- C020: SHL r/m8, imm8
  | shrRm8Imm8 (d : Rm8) (imm : Byte)  -- C028: SHR r/m8, imm8
  | sarRm8Imm8 (d : Rm8) (imm : Byte)  -- C038: SAR r/m8, imm8
  | rolRm16Imm8 (d : Rm16) (imm : Byte)  -- C100: ROL r/m16, imm8
  | rorRm16Imm8 (d : Rm16) (imm : Byte)  -- C108: ROR r/m16, imm8
  | rclRm16Imm8 (d : Rm16) (imm : Byte)  -- C110: RCL r/m16, imm8
  | rcrRm16Imm8 (d : Rm16) (imm : Byte)  -- C118: RCR r/m16, imm8
  | shlRm16Imm8 (d : Rm16) (imm : Byte)  -- C120: SHL r/m16, imm8
  | shrRm16Imm8 (d : Rm16) (imm : Byte)  -- C128: SHR r/m16, imm8
  | sarRm16Imm8 (d : Rm16) (imm : Byte)  -- C138: SAR r/m16, imm8
  | rolRm8One (d : Rm8)  -- D000: ROL r/m8, 1
  | rorRm8One (d : Rm8)  -- D008: ROR r/m8, 1
  | rclRm8One (d : Rm8)  -- D010: RCL r/m8, 1
  | rcrRm8One (d : Rm8)  -- D018: RCR r/m8, 1
  | shlRm8One (d : Rm8)  -- D020: SHL r/m8, 1
  | shrRm8One (d : Rm8)  -- D028: SHR r/m8, 1
  | sarRm8One (d : Rm8)  -- D038: SAR r/m8, 1
  | rolRm16One (d : Rm16)  -- D100: ROL r/m16, 1
  | rorRm16One (d : Rm16)  -- D108: ROR r/m16, 1
  | rclRm16One (d : Rm16)  -- D110: RCL r/m16, 1
  | rcrRm16One (d : Rm16)  -- D118: RCR r/m16, 1
  | shlRm16One (d : Rm16)  -- D120: SHL r/m16, 1
  | shrRm16One (d : Rm16)  -- D128: SHR r/m16, 1
  | sarRm16One (d : Rm16)  -- D138: SAR r/m16, 1
  | rolRm8Cl (d : Rm8)  -- D200: ROL r/m8, CL
  | rorRm8Cl (d : Rm8)  -- D208: ROR r/m8, CL
  | rclRm8Cl (d : Rm8)  -- D210: RCL r/m8, CL
  | rcrRm8Cl (d : Rm8)  -- D218: RCR r/m8, CL
  | shlRm8Cl (d : Rm8)  -- D220: SHL r/m8, CL
  | shrRm8Cl (d : Rm8)  -- D228: SHR r/m8, CL
  | sarRm8Cl (d : Rm8)  -- D238: SAR r/m8, CL
  | rolRm16Cl (d : Rm16)  -- D300: ROL r/m16, CL
  | rorRm16Cl (d : Rm16)  -- D308: ROR r/m16, CL
  | rclRm16Cl (d : Rm16)  -- D310: RCL r/m16, CL
  | rcrRm16Cl (d : Rm16)  -- D318: RCR r/m16, CL
  | shlRm16Cl (d : Rm16)  -- D320: SHL r/m16, CL
  | shrRm16Cl (d : Rm16)  -- D328: SHR r/m16, CL
  | sarRm16Cl (d : Rm16)  -- D338: SAR r/m16, CL
  | retImm16 (imm : Word)  -- C2: RET imm16
  | ret  -- C3: RET
  | lesR16M1616 (r : R16) (m : Mem)  -- C4: LES r16, m16:16
  | ldsR16M1616 (r : R16) (m : Mem)  -- C5: LDS r16, m16:16
  | movRm8Imm8 (d : Rm8) (imm : Byte)  -- C600: MOV r/m8, imm8
  | movRm16Imm16 (d : Rm16) (imm : Word)  -- C700: MOV r/m16, imm16
  | enterImm16Imm8 (size : Word) (level : Byte)  -- C8: ENTER imm16, imm8
  | leave  -- C9: LEAVE
  | retfImm16 (imm : Word)  -- CA: RETF imm16
  | retf  -- CB: RETF
  | int3  -- CC: INT3
  | intImm8 (imm : Byte)  -- CD: INT imm8
  | into  -- CE: INTO
  | iret  -- CF: IRET
  | xlat (seg : SReg)  -- D7: XLAT
  | loopneRel8 (rel : Byte)  -- E0: LOOPNE rel8
  | loopeRel8 (rel : Byte)  -- E1: LOOPE rel8
  | loopRel8 (rel : Byte)  -- E2: LOOP rel8
  | jcxzRel8 (rel : Byte)  -- E3: JCXZ rel8
  | callRel16 (rel : Word)  -- E8: CALL rel16
  | jmpRel16 (rel : Word)  -- E9: JMP rel16
  | jmpPtr1616 (off : Word) (sel : Word)  -- EA: JMP ptr16:16
  | jmpRel8 (rel : Byte)  -- EB: JMP rel8
  | lockPrefix (i : Instr)  -- F0: LOCK (prefix)
  | repnePrefix (i : Instr)  -- F2: REPNE/REPNZ (prefix)
  | repPrefix (i : Instr)  -- F3: REP/REPE/REPZ (prefix)
  | hlt  -- F4: HLT
  | cmc  -- F5: CMC
  | testRm8Imm8 (d : Rm8) (imm : Byte)  -- F600: TEST r/m8, imm8
  | notRm8 (d : Rm8)  -- F610: NOT r/m8
  | negRm8 (d : Rm8)  -- F618: NEG r/m8
  | mulRm8 (d : Rm8)  -- F620: MUL r/m8
  | imulRm8 (d : Rm8)  -- F628: IMUL r/m8
  | divRm8 (d : Rm8)  -- F630: DIV r/m8
  | idivRm8 (d : Rm8)  -- F638: IDIV r/m8
  | testRm16Imm16 (d : Rm16) (imm : Word)  -- F700: TEST r/m16, imm16
  | notRm16 (d : Rm16)  -- F710: NOT r/m16
  | negRm16 (d : Rm16)  -- F718: NEG r/m16
  | mulRm16 (d : Rm16)  -- F720: MUL r/m16
  | imulRm16 (d : Rm16)  -- F728: IMUL r/m16
  | divRm16 (d : Rm16)  -- F730: DIV r/m16
  | idivRm16 (d : Rm16)  -- F738: IDIV r/m16
  | clc  -- F8: CLC
  | stc  -- F9: STC
  | cli  -- FA: CLI
  | sti  -- FB: STI
  | cld  -- FC: CLD
  | std  -- FD: STD
  | incRm8 (d : Rm8)  -- FE00: INC r/m8
  | decRm8 (d : Rm8)  -- FE08: DEC r/m8
  | incRm16 (d : Rm16)  -- FF00: INC r/m16
  | decRm16 (d : Rm16)  -- FF08: DEC r/m16
  | callRm16 (d : Rm16)  -- FF10: CALL r/m16
  | callM1616 (m : Mem)  -- FF18: CALL m16:16
  | jmpRm16 (d : Rm16)  -- FF20: JMP r/m16
  | jmpM1616 (m : Mem)  -- FF28: JMP m16:16
  | pushRm16 (d : Rm16)  -- FF30: PUSH r/m16
  | faddM32 (m : Mem)  -- D800: FADD m32real
  | fmulM32 (m : Mem)  -- D808: FMUL m32real
  | fcomM32 (m : Mem)  -- D810: FCOM m32real
  | fcompM32 (m : Mem)  -- D818: FCOMP m32real
  | fsubM32 (m : Mem)  -- D820: FSUB m32real
  | fsubrM32 (m : Mem)  -- D828: FSUBR m32real
  | fdivM32 (m : Mem)  -- D830: FDIV m32real
  | fdivrM32 (m : Mem)  -- D838: FDIVR m32real
  | faddM64 (m : Mem)  -- DC00: FADD m64real
  | fmulM64 (m : Mem)  -- DC08: FMUL m64real
  | fcomM64 (m : Mem)  -- DC10: FCOM m64real
  | fcompM64 (m : Mem)  -- DC18: FCOMP m64real
  | fsubM64 (m : Mem)  -- DC20: FSUB m64real
  | fsubrM64 (m : Mem)  -- DC28: FSUBR m64real
  | fdivM64 (m : Mem)  -- DC30: FDIV m64real
  | fdivrM64 (m : Mem)  -- DC38: FDIVR m64real
  | fiaddM32 (m : Mem)  -- DA00: FIADD m32int
  | fimulM32 (m : Mem)  -- DA08: FIMUL m32int
  | ficomM32 (m : Mem)  -- DA10: FICOM m32int
  | ficompM32 (m : Mem)  -- DA18: FICOMP m32int
  | fisubM32 (m : Mem)  -- DA20: FISUB m32int
  | fisubrM32 (m : Mem)  -- DA28: FISUBR m32int
  | fidivM32 (m : Mem)  -- DA30: FIDIV m32int
  | fidivrM32 (m : Mem)  -- DA38: FIDIVR m32int
  | fiaddM16 (m : Mem)  -- DE00: FIADD m16int
  | fimulM16 (m : Mem)  -- DE08: FIMUL m16int
  | ficomM16 (m : Mem)  -- DE10: FICOM m16int
  | ficompM16 (m : Mem)  -- DE18: FICOMP m16int
  | fisubM16 (m : Mem)  -- DE20: FISUB m16int
  | fisubrM16 (m : Mem)  -- DE28: FISUBR m16int
  | fidivM16 (m : Mem)  -- DE30: FIDIV m16int
  | fidivrM16 (m : Mem)  -- DE38: FIDIVR m16int
  | fldM32 (m : Mem)  -- D900: FLD m32real
  | fstM32 (m : Mem)  -- D910: FST m32real
  | fstpM32 (m : Mem)  -- D918: FSTP m32real
  | fldcwM16 (m : Mem)  -- D928: FLDCW m16
  | fnstcwM16 (m : Mem)  -- D938: FNSTCW m16
  | fildM32 (m : Mem)  -- DB00: FILD m32int
  | fistM32 (m : Mem)  -- DB10: FIST m32int
  | fistpM32 (m : Mem)  -- DB18: FISTP m32int
  | fldM80 (m : Mem)  -- DB28: FLD m80real
  | fstpM80 (m : Mem)  -- DB38: FSTP m80real
  | fldM64 (m : Mem)  -- DD00: FLD m64real
  | fstM64 (m : Mem)  -- DD10: FST m64real
  | fstpM64 (m : Mem)  -- DD18: FSTP m64real
  | fnstswM16 (m : Mem)  -- DD38: FNSTSW m16
  | fildM16 (m : Mem)  -- DF00: FILD m16int
  | fistM16 (m : Mem)  -- DF10: FIST m16int
  | fistpM16 (m : Mem)  -- DF18: FISTP m16int
  | fildM64 (m : Mem)  -- DF28: FILD m64int
  | fistpM64 (m : Mem)  -- DF38: FISTP m64int
  | faddStSti (i : StIdx)  -- D8C0: FADD ST, ST(i)
  | fmulStSti (i : StIdx)  -- D8C8: FMUL ST, ST(i)
  | fcomSti (i : StIdx)  -- D8D0: FCOM ST(i)
  | fcompSti (i : StIdx)  -- D8D8: FCOMP ST(i)
  | fsubStSti (i : StIdx)  -- D8E0: FSUB ST, ST(i)
  | fsubrStSti (i : StIdx)  -- D8E8: FSUBR ST, ST(i)
  | fdivStSti (i : StIdx)  -- D8F0: FDIV ST, ST(i)
  | fdivrStSti (i : StIdx)  -- D8F8: FDIVR ST, ST(i)
  | fldSti (i : StIdx)  -- D9C0: FLD ST(i)
  | fxchSti (i : StIdx)  -- D9C8: FXCH ST(i)
  | fnop  -- D9D0: FNOP
  | fchs  -- D9E0: FCHS
  | fabs  -- D9E1: FABS
  | ftst  -- D9E4: FTST
  | fxam  -- D9E5: FXAM
  | fld1  -- D9E8: FLD1
  | fldl2t  -- D9E9: FLDL2T
  | fldl2e  -- D9EA: FLDL2E
  | fldpi  -- D9EB: FLDPI
  | fldlg2  -- D9EC: FLDLG2
  | fldln2  -- D9ED: FLDLN2
  | fldz  -- D9EE: FLDZ
  | fdecstp  -- D9F6: FDECSTP
  | fincstp  -- D9F7: FINCSTP
  | fsqrt  -- D9FA: FSQRT
  | frndint  -- D9FC: FRNDINT
  | fnclex  -- DBE2: FNCLEX
  | fninit  -- DBE3: FNINIT
  | faddStiSt (i : StIdx)  -- DCC0: FADD ST(i), ST
  | fmulStiSt (i : StIdx)  -- DCC8: FMUL ST(i), ST
  | fsubrStiSt (i : StIdx)  -- DCE0: FSUBR ST(i), ST
  | fsubStiSt (i : StIdx)  -- DCE8: FSUB ST(i), ST
  | fdivrStiSt (i : StIdx)  -- DCF0: FDIVR ST(i), ST
  | fdivStiSt (i : StIdx)  -- DCF8: FDIV ST(i), ST
  | ffreeSti (i : StIdx)  -- DDC0: FFREE ST(i)
  | fstSti (i : StIdx)  -- DDD0: FST ST(i)
  | fstpSti (i : StIdx)  -- DDD8: FSTP ST(i)
  | faddpStiSt (i : StIdx)  -- DEC0: FADDP ST(i), ST
  | fmulpStiSt (i : StIdx)  -- DEC8: FMULP ST(i), ST
  | fsubrpStiSt (i : StIdx)  -- DEE0: FSUBRP ST(i), ST
  | fsubpStiSt (i : StIdx)  -- DEE8: FSUBP ST(i), ST
  | fdivrpStiSt (i : StIdx)  -- DEF0: FDIVRP ST(i), ST
  | fdivpStiSt (i : StIdx)  -- DEF8: FDIVP ST(i), ST
  | fcompp  -- DED9: FCOMPP
  | fnstswAx  -- DFE0: FNSTSW AX
deriving DecidableEq, Repr

end Sys2Proof
end

