-- ==== Sys2Proof/WellFormed.lean ====
section
/-! DEFINITION. Well-formed instructions: the terms of `Instr` that an admitted encoding denotes
(30_encoding R120 to R135, R140). What can be ill-formed: `BP` as a register sum with no displacement (that pattern
is the direct address), a segment register other than the override or the default, a repeat prefix on a non-string
instruction or one that the operand does not record, more than 15 bytes. -/

namespace Sys2Proof

/-- The memory operand of an `r/m` operand, if it is one. -/
def Rm.mem? {ρ : Type} : Rm ρ → Option Mem
  | .reg _ => none
  | .mem m => some m

/-- Whether a register sum contains `BP`, and so has `SS` as its default segment (30_encoding R130). -/
def Base.usesBp : Base → Bool
  | .bpsi | .bpdi | .bp => true
  | .bxsi | .bxdi | .si | .di | .bx => false

/-- The default segment of an effective address (30_encoding R130): `SS` with `BP`, else `DS`. -/
def Ea.defaultSeg : Ea → SReg
  | .plain b | .disp8 b _ | .disp16 b _ => if b.usesBp then .ss else .ds
  | .direct _ => .ds

/-- `mod` = 00 with `r/m` = 110 is the direct address, so `BP` alone has no encoding (30_encoding R130). -/
def Ea.wf : Ea → Bool
  | .plain b => decide (b ≠ .bp)
  | .disp8 _ _ | .disp16 _ _ | .direct _ => true

/-- The displacement bytes of an effective address (30_encoding R130). -/
def Ea.dispLen : Ea → Nat
  | .plain _ => 0
  | .disp8 _ _ => 1
  | .disp16 _ _ | .direct _ => 2

/-- One prefix byte (30_encoding R123). -/
inductive Pfx where
  | seg (r : SReg)
  | lock
  | rep (r : Rep)
deriving DecidableEq, Repr

/-- The prefix record (30_encoding R122): the segment override and the repeat kind in force. -/
structure PfxCtx where
  seg : Option SReg := none
  rep : Option Rep := none
deriving DecidableEq, Repr

/-- A later prefix of a class replaces an earlier one; `LOCK` has no effect (30_encoding R123). -/
def PfxCtx.add (c : PfxCtx) : Pfx → PfxCtx
  | .seg r => { c with seg := some r }
  | .lock => c
  | .rep r => { c with rep := some r }

/-- The prefix bytes of an instruction, in stream order. -/
def Instr.prefixes : Instr → List Pfx
  | .esPrefix i => .seg .es :: i.prefixes
  | .csPrefix i => .seg .cs :: i.prefixes
  | .ssPrefix i => .seg .ss :: i.prefixes
  | .dsPrefix i => .seg .ds :: i.prefixes
  | .lockPrefix i => .lock :: i.prefixes
  | .repnePrefix i => .rep .repne :: i.prefixes
  | .repPrefix i => .rep .rep :: i.prefixes
  | _ => []

/-- The instruction under its prefixes. -/
def Instr.body : Instr → Instr
  | .esPrefix i | .csPrefix i | .ssPrefix i | .dsPrefix i => i.body
  | .lockPrefix i => i.body
  | .repnePrefix i | .repPrefix i => i.body
  | i => i

/-- What the parts after the opcode byte are (30_encoding R120, R136). -/
inductive Shape where
  /-- The opcode and that many bytes of immediate. -/
  | bare (imm : Nat)
  /-- The opcode, a ModRM byte with the displacement of its memory operand if any, and an immediate. -/
  | modrm (m : Option Mem) (imm : Nat)
  /-- An operand in memory with no ModRM byte: `moffs` (2 bytes of offset) and `XLAT` (none). -/
  | implied (seg : SReg) (bytes : Nat)
  /-- A string instruction: the segment of its source, if it has one, and its repeat prefix. -/
  | string (seg : Option SReg) (rep : Option Rep)
  /-- A prefix byte and the instruction it wraps. -/
  | wrapper
deriving DecidableEq, Repr

/-- The shape of each instruction, from the format column of spec/opcode_table.json. -/
def Instr.shape : Instr → Shape
  | .addRm8R8 d _ => .modrm d.mem? 0
  | .addRm16R16 d _ => .modrm d.mem? 0
  | .addR8Rm8 _ x => .modrm x.mem? 0
  | .addR16Rm16 _ x => .modrm x.mem? 0
  | .addAlImm8 _ => .bare 1
  | .addAxImm16 _ => .bare 2
  | .orRm8R8 d _ => .modrm d.mem? 0
  | .orRm16R16 d _ => .modrm d.mem? 0
  | .orR8Rm8 _ x => .modrm x.mem? 0
  | .orR16Rm16 _ x => .modrm x.mem? 0
  | .orAlImm8 _ => .bare 1
  | .orAxImm16 _ => .bare 2
  | .adcRm8R8 d _ => .modrm d.mem? 0
  | .adcRm16R16 d _ => .modrm d.mem? 0
  | .adcR8Rm8 _ x => .modrm x.mem? 0
  | .adcR16Rm16 _ x => .modrm x.mem? 0
  | .adcAlImm8 _ => .bare 1
  | .adcAxImm16 _ => .bare 2
  | .sbbRm8R8 d _ => .modrm d.mem? 0
  | .sbbRm16R16 d _ => .modrm d.mem? 0
  | .sbbR8Rm8 _ x => .modrm x.mem? 0
  | .sbbR16Rm16 _ x => .modrm x.mem? 0
  | .sbbAlImm8 _ => .bare 1
  | .sbbAxImm16 _ => .bare 2
  | .andRm8R8 d _ => .modrm d.mem? 0
  | .andRm16R16 d _ => .modrm d.mem? 0
  | .andR8Rm8 _ x => .modrm x.mem? 0
  | .andR16Rm16 _ x => .modrm x.mem? 0
  | .andAlImm8 _ => .bare 1
  | .andAxImm16 _ => .bare 2
  | .subRm8R8 d _ => .modrm d.mem? 0
  | .subRm16R16 d _ => .modrm d.mem? 0
  | .subR8Rm8 _ x => .modrm x.mem? 0
  | .subR16Rm16 _ x => .modrm x.mem? 0
  | .subAlImm8 _ => .bare 1
  | .subAxImm16 _ => .bare 2
  | .xorRm8R8 d _ => .modrm d.mem? 0
  | .xorRm16R16 d _ => .modrm d.mem? 0
  | .xorR8Rm8 _ x => .modrm x.mem? 0
  | .xorR16Rm16 _ x => .modrm x.mem? 0
  | .xorAlImm8 _ => .bare 1
  | .xorAxImm16 _ => .bare 2
  | .cmpRm8R8 d _ => .modrm d.mem? 0
  | .cmpRm16R16 d _ => .modrm d.mem? 0
  | .cmpR8Rm8 _ x => .modrm x.mem? 0
  | .cmpR16Rm16 _ x => .modrm x.mem? 0
  | .cmpAlImm8 _ => .bare 1
  | .cmpAxImm16 _ => .bare 2
  | .pushEs => .bare 0
  | .pushCs => .bare 0
  | .pushSs => .bare 0
  | .pushDs => .bare 0
  | .popEs => .bare 0
  | .popSs => .bare 0
  | .popDs => .bare 0
  | .esPrefix _ => .wrapper
  | .csPrefix _ => .wrapper
  | .ssPrefix _ => .wrapper
  | .dsPrefix _ => .wrapper
  | .incR16 _ => .bare 0
  | .decR16 _ => .bare 0
  | .pushR16 _ => .bare 0
  | .popR16 _ => .bare 0
  | .pusha => .bare 0
  | .popa => .bare 0
  | .boundR16M1616 _ m => .modrm (some m) 0
  | .pushImm16 _ => .bare 2
  | .imulR16Rm16Imm16 _ x _ => .modrm x.mem? 2
  | .pushImm8 _ => .bare 1
  | .imulR16Rm16Imm8 _ x _ => .modrm x.mem? 1
  | .joRel8 _ => .bare 1
  | .jnoRel8 _ => .bare 1
  | .jbRel8 _ => .bare 1
  | .jnbRel8 _ => .bare 1
  | .jzRel8 _ => .bare 1
  | .jnzRel8 _ => .bare 1
  | .jbeRel8 _ => .bare 1
  | .jnbeRel8 _ => .bare 1
  | .jsRel8 _ => .bare 1
  | .jnsRel8 _ => .bare 1
  | .jpRel8 _ => .bare 1
  | .jnpRel8 _ => .bare 1
  | .jlRel8 _ => .bare 1
  | .jnlRel8 _ => .bare 1
  | .jleRel8 _ => .bare 1
  | .jnleRel8 _ => .bare 1
  | .addRm8Imm8 d _ => .modrm d.mem? 1
  | .orRm8Imm8 d _ => .modrm d.mem? 1
  | .adcRm8Imm8 d _ => .modrm d.mem? 1
  | .sbbRm8Imm8 d _ => .modrm d.mem? 1
  | .andRm8Imm8 d _ => .modrm d.mem? 1
  | .subRm8Imm8 d _ => .modrm d.mem? 1
  | .xorRm8Imm8 d _ => .modrm d.mem? 1
  | .cmpRm8Imm8 d _ => .modrm d.mem? 1
  | .addRm16Imm16 d _ => .modrm d.mem? 2
  | .orRm16Imm16 d _ => .modrm d.mem? 2
  | .adcRm16Imm16 d _ => .modrm d.mem? 2
  | .sbbRm16Imm16 d _ => .modrm d.mem? 2
  | .andRm16Imm16 d _ => .modrm d.mem? 2
  | .subRm16Imm16 d _ => .modrm d.mem? 2
  | .xorRm16Imm16 d _ => .modrm d.mem? 2
  | .cmpRm16Imm16 d _ => .modrm d.mem? 2
  | .addRm16Imm8 d _ => .modrm d.mem? 1
  | .orRm16Imm8 d _ => .modrm d.mem? 1
  | .adcRm16Imm8 d _ => .modrm d.mem? 1
  | .sbbRm16Imm8 d _ => .modrm d.mem? 1
  | .andRm16Imm8 d _ => .modrm d.mem? 1
  | .subRm16Imm8 d _ => .modrm d.mem? 1
  | .xorRm16Imm8 d _ => .modrm d.mem? 1
  | .cmpRm16Imm8 d _ => .modrm d.mem? 1
  | .testRm8R8 d _ => .modrm d.mem? 0
  | .testRm16R16 d _ => .modrm d.mem? 0
  | .xchgR8Rm8 _ x => .modrm x.mem? 0
  | .xchgR16Rm16 _ x => .modrm x.mem? 0
  | .movRm8R8 d _ => .modrm d.mem? 0
  | .movRm16R16 d _ => .modrm d.mem? 0
  | .movR8Rm8 _ x => .modrm x.mem? 0
  | .movR16Rm16 _ x => .modrm x.mem? 0
  | .movRm16Es d => .modrm d.mem? 0
  | .movRm16Cs d => .modrm d.mem? 0
  | .movRm16Ss d => .modrm d.mem? 0
  | .movRm16Ds d => .modrm d.mem? 0
  | .leaR16M _ m => .modrm (some m) 0
  | .movEsRm16 d => .modrm d.mem? 0
  | .movSsRm16 d => .modrm d.mem? 0
  | .movDsRm16 d => .modrm d.mem? 0
  | .popRm16 d => .modrm d.mem? 0
  | .nop => .bare 0
  | .xchgAxCx => .bare 0
  | .xchgAxDx => .bare 0
  | .xchgAxBx => .bare 0
  | .xchgAxSp => .bare 0
  | .xchgAxBp => .bare 0
  | .xchgAxSi => .bare 0
  | .xchgAxDi => .bare 0
  | .cbw => .bare 0
  | .cwd => .bare 0
  | .callPtr1616 _ _ => .bare 4
  | .wait => .bare 0
  | .pushf => .bare 0
  | .popf => .bare 0
  | .sahf => .bare 0
  | .lahf => .bare 0
  | .movAlMoffs8 seg _ => .implied seg 2
  | .movAxMoffs16 seg _ => .implied seg 2
  | .movMoffs8Al seg _ => .implied seg 2
  | .movMoffs16Ax seg _ => .implied seg 2
  | .movsb seg rep => .string (some seg) rep
  | .movsw seg rep => .string (some seg) rep
  | .cmpsb seg rep => .string (some seg) rep
  | .cmpsw seg rep => .string (some seg) rep
  | .testAlImm8 _ => .bare 1
  | .testAxImm16 _ => .bare 2
  | .stosb rep => .string none rep
  | .stosw rep => .string none rep
  | .lodsb seg rep => .string (some seg) rep
  | .lodsw seg rep => .string (some seg) rep
  | .scasb rep => .string none rep
  | .scasw rep => .string none rep
  | .movR8Imm8 _ _ => .bare 1
  | .movR16Imm16 _ _ => .bare 2
  | .rolRm8Imm8 d _ => .modrm d.mem? 1
  | .rorRm8Imm8 d _ => .modrm d.mem? 1
  | .rclRm8Imm8 d _ => .modrm d.mem? 1
  | .rcrRm8Imm8 d _ => .modrm d.mem? 1
  | .shlRm8Imm8 d _ => .modrm d.mem? 1
  | .shrRm8Imm8 d _ => .modrm d.mem? 1
  | .sarRm8Imm8 d _ => .modrm d.mem? 1
  | .rolRm16Imm8 d _ => .modrm d.mem? 1
  | .rorRm16Imm8 d _ => .modrm d.mem? 1
  | .rclRm16Imm8 d _ => .modrm d.mem? 1
  | .rcrRm16Imm8 d _ => .modrm d.mem? 1
  | .shlRm16Imm8 d _ => .modrm d.mem? 1
  | .shrRm16Imm8 d _ => .modrm d.mem? 1
  | .sarRm16Imm8 d _ => .modrm d.mem? 1
  | .rolRm8One d => .modrm d.mem? 0
  | .rorRm8One d => .modrm d.mem? 0
  | .rclRm8One d => .modrm d.mem? 0
  | .rcrRm8One d => .modrm d.mem? 0
  | .shlRm8One d => .modrm d.mem? 0
  | .shrRm8One d => .modrm d.mem? 0
  | .sarRm8One d => .modrm d.mem? 0
  | .rolRm16One d => .modrm d.mem? 0
  | .rorRm16One d => .modrm d.mem? 0
  | .rclRm16One d => .modrm d.mem? 0
  | .rcrRm16One d => .modrm d.mem? 0
  | .shlRm16One d => .modrm d.mem? 0
  | .shrRm16One d => .modrm d.mem? 0
  | .sarRm16One d => .modrm d.mem? 0
  | .rolRm8Cl d => .modrm d.mem? 0
  | .rorRm8Cl d => .modrm d.mem? 0
  | .rclRm8Cl d => .modrm d.mem? 0
  | .rcrRm8Cl d => .modrm d.mem? 0
  | .shlRm8Cl d => .modrm d.mem? 0
  | .shrRm8Cl d => .modrm d.mem? 0
  | .sarRm8Cl d => .modrm d.mem? 0
  | .rolRm16Cl d => .modrm d.mem? 0
  | .rorRm16Cl d => .modrm d.mem? 0
  | .rclRm16Cl d => .modrm d.mem? 0
  | .rcrRm16Cl d => .modrm d.mem? 0
  | .shlRm16Cl d => .modrm d.mem? 0
  | .shrRm16Cl d => .modrm d.mem? 0
  | .sarRm16Cl d => .modrm d.mem? 0
  | .retImm16 _ => .bare 2
  | .ret => .bare 0
  | .lesR16M1616 _ m => .modrm (some m) 0
  | .ldsR16M1616 _ m => .modrm (some m) 0
  | .movRm8Imm8 d _ => .modrm d.mem? 1
  | .movRm16Imm16 d _ => .modrm d.mem? 2
  | .enterImm16Imm8 _ _ => .bare 3
  | .leave => .bare 0
  | .retfImm16 _ => .bare 2
  | .retf => .bare 0
  | .int3 => .bare 0
  | .intImm8 _ => .bare 1
  | .into => .bare 0
  | .iret => .bare 0
  | .xlat seg => .implied seg 0
  | .loopneRel8 _ => .bare 1
  | .loopeRel8 _ => .bare 1
  | .loopRel8 _ => .bare 1
  | .jcxzRel8 _ => .bare 1
  | .callRel16 _ => .bare 2
  | .jmpRel16 _ => .bare 2
  | .jmpPtr1616 _ _ => .bare 4
  | .jmpRel8 _ => .bare 1
  | .lockPrefix _ => .wrapper
  | .repnePrefix _ => .wrapper
  | .repPrefix _ => .wrapper
  | .hlt => .bare 0
  | .cmc => .bare 0
  | .testRm8Imm8 d _ => .modrm d.mem? 1
  | .notRm8 d => .modrm d.mem? 0
  | .negRm8 d => .modrm d.mem? 0
  | .mulRm8 d => .modrm d.mem? 0
  | .imulRm8 d => .modrm d.mem? 0
  | .divRm8 d => .modrm d.mem? 0
  | .idivRm8 d => .modrm d.mem? 0
  | .testRm16Imm16 d _ => .modrm d.mem? 2
  | .notRm16 d => .modrm d.mem? 0
  | .negRm16 d => .modrm d.mem? 0
  | .mulRm16 d => .modrm d.mem? 0
  | .imulRm16 d => .modrm d.mem? 0
  | .divRm16 d => .modrm d.mem? 0
  | .idivRm16 d => .modrm d.mem? 0
  | .clc => .bare 0
  | .stc => .bare 0
  | .cli => .bare 0
  | .sti => .bare 0
  | .cld => .bare 0
  | .std => .bare 0
  | .incRm8 d => .modrm d.mem? 0
  | .decRm8 d => .modrm d.mem? 0
  | .incRm16 d => .modrm d.mem? 0
  | .decRm16 d => .modrm d.mem? 0
  | .callRm16 d => .modrm d.mem? 0
  | .callM1616 m => .modrm (some m) 0
  | .jmpRm16 d => .modrm d.mem? 0
  | .jmpM1616 m => .modrm (some m) 0
  | .pushRm16 d => .modrm d.mem? 0
  | .faddM32 m => .modrm (some m) 0
  | .fmulM32 m => .modrm (some m) 0
  | .fcomM32 m => .modrm (some m) 0
  | .fcompM32 m => .modrm (some m) 0
  | .fsubM32 m => .modrm (some m) 0
  | .fsubrM32 m => .modrm (some m) 0
  | .fdivM32 m => .modrm (some m) 0
  | .fdivrM32 m => .modrm (some m) 0
  | .faddM64 m => .modrm (some m) 0
  | .fmulM64 m => .modrm (some m) 0
  | .fcomM64 m => .modrm (some m) 0
  | .fcompM64 m => .modrm (some m) 0
  | .fsubM64 m => .modrm (some m) 0
  | .fsubrM64 m => .modrm (some m) 0
  | .fdivM64 m => .modrm (some m) 0
  | .fdivrM64 m => .modrm (some m) 0
  | .fiaddM32 m => .modrm (some m) 0
  | .fimulM32 m => .modrm (some m) 0
  | .ficomM32 m => .modrm (some m) 0
  | .ficompM32 m => .modrm (some m) 0
  | .fisubM32 m => .modrm (some m) 0
  | .fisubrM32 m => .modrm (some m) 0
  | .fidivM32 m => .modrm (some m) 0
  | .fidivrM32 m => .modrm (some m) 0
  | .fiaddM16 m => .modrm (some m) 0
  | .fimulM16 m => .modrm (some m) 0
  | .ficomM16 m => .modrm (some m) 0
  | .ficompM16 m => .modrm (some m) 0
  | .fisubM16 m => .modrm (some m) 0
  | .fisubrM16 m => .modrm (some m) 0
  | .fidivM16 m => .modrm (some m) 0
  | .fidivrM16 m => .modrm (some m) 0
  | .fldM32 m => .modrm (some m) 0
  | .fstM32 m => .modrm (some m) 0
  | .fstpM32 m => .modrm (some m) 0
  | .fldcwM16 m => .modrm (some m) 0
  | .fnstcwM16 m => .modrm (some m) 0
  | .fildM32 m => .modrm (some m) 0
  | .fistM32 m => .modrm (some m) 0
  | .fistpM32 m => .modrm (some m) 0
  | .fldM80 m => .modrm (some m) 0
  | .fstpM80 m => .modrm (some m) 0
  | .fldM64 m => .modrm (some m) 0
  | .fstM64 m => .modrm (some m) 0
  | .fstpM64 m => .modrm (some m) 0
  | .fnstswM16 m => .modrm (some m) 0
  | .fildM16 m => .modrm (some m) 0
  | .fistM16 m => .modrm (some m) 0
  | .fistpM16 m => .modrm (some m) 0
  | .fildM64 m => .modrm (some m) 0
  | .fistpM64 m => .modrm (some m) 0
  | .faddStSti _ => .modrm none 0
  | .fmulStSti _ => .modrm none 0
  | .fcomSti _ => .modrm none 0
  | .fcompSti _ => .modrm none 0
  | .fsubStSti _ => .modrm none 0
  | .fsubrStSti _ => .modrm none 0
  | .fdivStSti _ => .modrm none 0
  | .fdivrStSti _ => .modrm none 0
  | .fldSti _ => .modrm none 0
  | .fxchSti _ => .modrm none 0
  | .fnop => .modrm none 0
  | .fchs => .modrm none 0
  | .fabs => .modrm none 0
  | .ftst => .modrm none 0
  | .fxam => .modrm none 0
  | .fld1 => .modrm none 0
  | .fldl2t => .modrm none 0
  | .fldl2e => .modrm none 0
  | .fldpi => .modrm none 0
  | .fldlg2 => .modrm none 0
  | .fldln2 => .modrm none 0
  | .fldz => .modrm none 0
  | .fdecstp => .modrm none 0
  | .fincstp => .modrm none 0
  | .fsqrt => .modrm none 0
  | .frndint => .modrm none 0
  | .fnclex => .modrm none 0
  | .fninit => .modrm none 0
  | .faddStiSt _ => .modrm none 0
  | .fmulStiSt _ => .modrm none 0
  | .fsubrStiSt _ => .modrm none 0
  | .fsubStiSt _ => .modrm none 0
  | .fdivrStiSt _ => .modrm none 0
  | .fdivStiSt _ => .modrm none 0
  | .ffreeSti _ => .modrm none 0
  | .fstSti _ => .modrm none 0
  | .fstpSti _ => .modrm none 0
  | .faddpStiSt _ => .modrm none 0
  | .fmulpStiSt _ => .modrm none 0
  | .fsubrpStiSt _ => .modrm none 0
  | .fsubpStiSt _ => .modrm none 0
  | .fdivrpStiSt _ => .modrm none 0
  | .fdivpStiSt _ => .modrm none 0
  | .fcompp => .modrm none 0
  | .fnstswAx => .modrm none 0

/-- The bytes of an instruction of that shape, its prefixes apart (30_encoding R126). -/
def Shape.length : Shape → Nat
  | .bare imm => 1 + imm
  | .modrm m imm => 2 + (m.map (fun x => x.ea.dispLen)).getD 0 + imm
  | .implied _ bytes => 1 + bytes
  | .string _ _ => 1
  | .wrapper => 1

/-- The segment of an operand is the override if there is one, else its default (30_encoding R131). -/
def PfxCtx.segOf (c : PfxCtx) (default : SReg) : SReg := c.seg.getD default

/-- A memory operand agrees with the prefix record and can be encoded. -/
def Mem.wfIn (c : PfxCtx) (m : Mem) : Bool :=
  m.ea.wf && decide (m.seg = c.segOf m.ea.defaultSeg)

/-- A shape agrees with the prefix record in force (30_encoding R125, R131). -/
def Shape.wfIn (c : PfxCtx) : Shape → Bool
  | .bare _ => decide (c.rep = none)
  | .modrm m _ => decide (c.rep = none) && m.all (fun x => x.wfIn c)
  | .implied seg _ => decide (c.rep = none) && decide (seg = c.segOf .ds)
  | .string seg rep => decide (rep = c.rep) && seg.all (fun x => decide (x = c.segOf .ds))
  | .wrapper => false

/-- `d.length` of 30_encoding R126: every byte of the instruction, prefixes included. -/
def Instr.length (i : Instr) : Nat := i.prefixes.length + i.body.shape.length

/-- The instruction agrees with its own prefixes, when the record `c` is already in force. -/
def Instr.wfIn (c : PfxCtx) (i : Instr) : Bool :=
  i.body.shape.wfIn (i.prefixes.foldl PfxCtx.add c)

/-- The instruction is one that some admitted byte sequence denotes (30_encoding R122, R127). -/
def Instr.wf (i : Instr) : Bool :=
  i.wfIn {} && decide (i.length ≤ Config.maxInsnLen)

end Sys2Proof
end

