-- ==== Sys2Proof/Decode.lean ====
section
/-! DEFINITION. The decoder, total on any bytes, and after it the encoder (30_encoding).
A decoder of a part is a function of the bytes still to read; it answers the part and the bytes that are left, or
says that the bytes read so far match no admitted instruction (`invalid`, R140), or that they ran out before that
was known (`truncated`). It never reads a byte beyond the deciding one (R122, R464).
Some definitions are marked noncomputable for one reason only: Lean's compiled object format has no tag for more than
245 constructors with fields, and the table has 298 such rows. The kernel evaluates them like the others (LOG 16). -/

namespace Sys2Proof

/-! ## Fields -/

/-- Why no instruction was read. -/
inductive DecodeError where
  /-- The bytes read so far match no admitted instruction (30_encoding R122, R140). -/
  | invalid
  /-- The bytes ran out before the instruction was complete or known to be invalid. -/
  | truncated
deriving DecidableEq, Repr

/-- A decoder of a part of an instruction. -/
abbrev Dec := StateT (List Byte) (Except DecodeError)

/-- Word register numbers (30_encoding R133, 10_state R30). -/
def R16.ofNum (n : BitVec 3) : R16 :=
  match n.toNat with
  | 0 => .ax | 1 => .cx | 2 => .dx | 3 => .bx | 4 => .sp | 5 => .bp | 6 => .si | _ => .di

/-- Byte register numbers (30_encoding R133, 10_state R32). -/
def R8.ofNum (n : BitVec 3) : R8 :=
  match n.toNat with
  | 0 => .al | 1 => .cl | 2 => .dl | 3 => .bl | 4 => .ah | 5 => .ch | 6 => .dh | _ => .bh

/-- The register sum that an `r/m` field selects (30_encoding R130). -/
def Base.ofNum (n : BitVec 3) : Base :=
  match n.toNat with
  | 0 => .bxsi | 1 => .bxdi | 2 => .bpsi | 3 => .bpdi | 4 => .si | 5 => .di | 6 => .bp | _ => .bx

/-- The ModRM byte's three fields (30_encoding R129). -/
structure ModRm where
  mod : BitVec 2
  reg : BitVec 3
  rm  : BitVec 3
deriving DecidableEq, Repr

def ModRm.ofByte (b : Byte) : ModRm :=
  { mod := b.extractLsb' 6 2, reg := b.extractLsb' 3 3, rm := b.extractLsb' 0 3 }

namespace Decode

/-- The bytes match no admitted instruction. -/
def bad {α : Type} : Dec α := fun _ => .error .invalid

/-- The next byte. -/
def byte : Dec Byte
  | [] => .error .truncated
  | b :: bs => .ok (b, bs)

/-- The next word, low byte first (30_encoding R135, 20_memory R82). -/
def word : Dec Word := do
  let lo ← byte
  let hi ← byte
  pure (hi ++ lo)

/-- The ModRM byte. -/
def modrm : Dec ModRm := do
  let b ← byte
  pure (ModRm.ofByte b)

/-- The effective address that `mod` (not 11) and `r/m` select, with its displacement (30_encoding R130). -/
def ea (m : ModRm) : Dec Ea :=
  match m.mod.toNat with
  | 0 => if m.rm = 6#3 then do
           let d ← word
           pure (.direct d)
         else pure (.plain (Base.ofNum m.rm))
  | 1 => do
    let d ← byte
    pure (.disp8 (Base.ofNum m.rm) d)
  | _ => do
    let d ← word
    pure (.disp16 (Base.ofNum m.rm) d)

/-- A memory operand, its segment the override or the default (30_encoding R131). -/
def mem (seg : Option SReg) (m : ModRm) : Dec Mem := do
  let e ← ea m
  pure ⟨seg.getD e.defaultSeg, e⟩

def rmOf8 (seg : Option SReg) (m : ModRm) : Dec Rm8 :=
  if m.mod = 3#2 then pure (.reg (R8.ofNum m.rm)) else do
    let x ← mem seg m
    pure (.mem x)

def rmOf16 (seg : Option SReg) (m : ModRm) : Dec Rm16 :=
  if m.mod = 3#2 then pure (.reg (R16.ofNum m.rm)) else do
    let x ← mem seg m
    pure (.mem x)

/-! ## The formats of 30_encoding R136, each over the constructor it fills -/

def imm8 (f : Byte → Instr) : Dec Instr := do
  let v ← byte
  pure (f v)

def imm16 (f : Word → Instr) : Dec Instr := do
  let v ← word
  pure (f v)

/-- `I16I8`: first a word, then a byte (30_encoding R135). -/
def imm16Imm8 (f : Word → Byte → Instr) : Dec Instr := do
  let w ← word
  let b ← byte
  pure (f w b)

/-- `FAR`: first the offset, then the selector (30_encoding R135). -/
def far (f : Word → Word → Instr) : Dec Instr := do
  let off ← word
  let sel ← word
  pure (f off sel)

/-- `FD`, `TD`: a direct offset in `DS` or the override's segment (30_encoding R131, R135). -/
def moffs (seg : Option SReg) (f : SReg → Word → Instr) : Dec Instr := do
  let off ← word
  pure (f (seg.getD .ds) off)

def mr8 (seg : Option SReg) (f : Rm8 → R8 → Instr) : Dec Instr := do
  let m ← modrm
  let d ← rmOf8 seg m
  pure (f d (R8.ofNum m.reg))

def mr16 (seg : Option SReg) (f : Rm16 → R16 → Instr) : Dec Instr := do
  let m ← modrm
  let d ← rmOf16 seg m
  pure (f d (R16.ofNum m.reg))

def rm8 (seg : Option SReg) (f : R8 → Rm8 → Instr) : Dec Instr := do
  let m ← modrm
  let x ← rmOf8 seg m
  pure (f (R8.ofNum m.reg) x)

def rm16 (seg : Option SReg) (f : R16 → Rm16 → Instr) : Dec Instr := do
  let m ← modrm
  let x ← rmOf16 seg m
  pure (f (R16.ofNum m.reg) x)

/-- `RMm`: a register form (`mod` = 11) is invalid, and known to be so from the ModRM byte (30_encoding R140). -/
def rmMem (seg : Option SReg) (f : R16 → Mem → Instr) : Dec Instr := do
  let m ← modrm
  if m.mod = 3#2 then bad else do
    let x ← mem seg m
    pure (f (R16.ofNum m.reg) x)

def rmImm16 (seg : Option SReg) (f : R16 → Rm16 → Word → Instr) : Dec Instr := do
  let m ← modrm
  let x ← rmOf16 seg m
  let v ← word
  pure (f (R16.ofNum m.reg) x v)

def rmImm8 (seg : Option SReg) (f : R16 → Rm16 → Byte → Instr) : Dec Instr := do
  let m ← modrm
  let x ← rmOf16 seg m
  let v ← byte
  pure (f (R16.ofNum m.reg) x v)

/-! The parts after a ModRM byte whose `reg` field chose the instruction. -/

def m8 (seg : Option SReg) (m : ModRm) (f : Rm8 → Instr) : Dec Instr := do
  let d ← rmOf8 seg m
  pure (f d)

def m16 (seg : Option SReg) (m : ModRm) (f : Rm16 → Instr) : Dec Instr := do
  let d ← rmOf16 seg m
  pure (f d)

def m8Imm8 (seg : Option SReg) (m : ModRm) (f : Rm8 → Byte → Instr) : Dec Instr := do
  let d ← rmOf8 seg m
  let v ← byte
  pure (f d v)

def m16Imm8 (seg : Option SReg) (m : ModRm) (f : Rm16 → Byte → Instr) : Dec Instr := do
  let d ← rmOf16 seg m
  let v ← byte
  pure (f d v)

def m16Imm16 (seg : Option SReg) (m : ModRm) (f : Rm16 → Word → Instr) : Dec Instr := do
  let d ← rmOf16 seg m
  let v ← word
  pure (f d v)

/-- `Mm`, `FM`: memory only. -/
def memOnly (seg : Option SReg) (m : ModRm) (f : Mem → Instr) : Dec Instr :=
  if m.mod = 3#2 then bad else do
    let x ← mem seg m
    pure (f x)

/-! ## Opcode groups: the ModRM `reg` field selects the instruction (30_encoding R134, R138, R139) -/

def op80 (seg : Option SReg) : Dec Instr := do
  let m ← modrm
  match m.reg.toNat with
  | 0 => m8Imm8 seg m .addRm8Imm8
  | 1 => m8Imm8 seg m .orRm8Imm8
  | 2 => m8Imm8 seg m .adcRm8Imm8
  | 3 => m8Imm8 seg m .sbbRm8Imm8
  | 4 => m8Imm8 seg m .andRm8Imm8
  | 5 => m8Imm8 seg m .subRm8Imm8
  | 6 => m8Imm8 seg m .xorRm8Imm8
  | _ => m8Imm8 seg m .cmpRm8Imm8

def op81 (seg : Option SReg) : Dec Instr := do
  let m ← modrm
  match m.reg.toNat with
  | 0 => m16Imm16 seg m .addRm16Imm16
  | 1 => m16Imm16 seg m .orRm16Imm16
  | 2 => m16Imm16 seg m .adcRm16Imm16
  | 3 => m16Imm16 seg m .sbbRm16Imm16
  | 4 => m16Imm16 seg m .andRm16Imm16
  | 5 => m16Imm16 seg m .subRm16Imm16
  | 6 => m16Imm16 seg m .xorRm16Imm16
  | _ => m16Imm16 seg m .cmpRm16Imm16

def op83 (seg : Option SReg) : Dec Instr := do
  let m ← modrm
  match m.reg.toNat with
  | 0 => m16Imm8 seg m .addRm16Imm8
  | 1 => m16Imm8 seg m .orRm16Imm8
  | 2 => m16Imm8 seg m .adcRm16Imm8
  | 3 => m16Imm8 seg m .sbbRm16Imm8
  | 4 => m16Imm8 seg m .andRm16Imm8
  | 5 => m16Imm8 seg m .subRm16Imm8
  | 6 => m16Imm8 seg m .xorRm16Imm8
  | _ => m16Imm8 seg m .cmpRm16Imm8

def op8C (seg : Option SReg) : Dec Instr := do
  let m ← modrm
  match m.reg.toNat with
  | 0 => m16 seg m .movRm16Es
  | 1 => m16 seg m .movRm16Cs
  | 2 => m16 seg m .movRm16Ss
  | 3 => m16 seg m .movRm16Ds
  | _ => bad

def op8E (seg : Option SReg) : Dec Instr := do
  let m ← modrm
  match m.reg.toNat with
  | 0 => m16 seg m .movEsRm16
  | 2 => m16 seg m .movSsRm16
  | 3 => m16 seg m .movDsRm16
  | _ => bad

def op8F (seg : Option SReg) : Dec Instr := do
  let m ← modrm
  match m.reg.toNat with
  | 0 => m16 seg m .popRm16
  | _ => bad

def opC0 (seg : Option SReg) : Dec Instr := do
  let m ← modrm
  match m.reg.toNat with
  | 0 => m8Imm8 seg m .rolRm8Imm8
  | 1 => m8Imm8 seg m .rorRm8Imm8
  | 2 => m8Imm8 seg m .rclRm8Imm8
  | 3 => m8Imm8 seg m .rcrRm8Imm8
  | 4 => m8Imm8 seg m .shlRm8Imm8
  | 5 => m8Imm8 seg m .shrRm8Imm8
  | 7 => m8Imm8 seg m .sarRm8Imm8
  | _ => bad

def opC1 (seg : Option SReg) : Dec Instr := do
  let m ← modrm
  match m.reg.toNat with
  | 0 => m16Imm8 seg m .rolRm16Imm8
  | 1 => m16Imm8 seg m .rorRm16Imm8
  | 2 => m16Imm8 seg m .rclRm16Imm8
  | 3 => m16Imm8 seg m .rcrRm16Imm8
  | 4 => m16Imm8 seg m .shlRm16Imm8
  | 5 => m16Imm8 seg m .shrRm16Imm8
  | 7 => m16Imm8 seg m .sarRm16Imm8
  | _ => bad

def opC6 (seg : Option SReg) : Dec Instr := do
  let m ← modrm
  match m.reg.toNat with
  | 0 => m8Imm8 seg m .movRm8Imm8
  | _ => bad

def opC7 (seg : Option SReg) : Dec Instr := do
  let m ← modrm
  match m.reg.toNat with
  | 0 => m16Imm16 seg m .movRm16Imm16
  | _ => bad

def opD0 (seg : Option SReg) : Dec Instr := do
  let m ← modrm
  match m.reg.toNat with
  | 0 => m8 seg m .rolRm8One
  | 1 => m8 seg m .rorRm8One
  | 2 => m8 seg m .rclRm8One
  | 3 => m8 seg m .rcrRm8One
  | 4 => m8 seg m .shlRm8One
  | 5 => m8 seg m .shrRm8One
  | 7 => m8 seg m .sarRm8One
  | _ => bad

def opD1 (seg : Option SReg) : Dec Instr := do
  let m ← modrm
  match m.reg.toNat with
  | 0 => m16 seg m .rolRm16One
  | 1 => m16 seg m .rorRm16One
  | 2 => m16 seg m .rclRm16One
  | 3 => m16 seg m .rcrRm16One
  | 4 => m16 seg m .shlRm16One
  | 5 => m16 seg m .shrRm16One
  | 7 => m16 seg m .sarRm16One
  | _ => bad

def opD2 (seg : Option SReg) : Dec Instr := do
  let m ← modrm
  match m.reg.toNat with
  | 0 => m8 seg m .rolRm8Cl
  | 1 => m8 seg m .rorRm8Cl
  | 2 => m8 seg m .rclRm8Cl
  | 3 => m8 seg m .rcrRm8Cl
  | 4 => m8 seg m .shlRm8Cl
  | 5 => m8 seg m .shrRm8Cl
  | 7 => m8 seg m .sarRm8Cl
  | _ => bad

def opD3 (seg : Option SReg) : Dec Instr := do
  let m ← modrm
  match m.reg.toNat with
  | 0 => m16 seg m .rolRm16Cl
  | 1 => m16 seg m .rorRm16Cl
  | 2 => m16 seg m .rclRm16Cl
  | 3 => m16 seg m .rcrRm16Cl
  | 4 => m16 seg m .shlRm16Cl
  | 5 => m16 seg m .shrRm16Cl
  | 7 => m16 seg m .sarRm16Cl
  | _ => bad

noncomputable def opD8 (seg : Option SReg) : Dec Instr := do
  let m ← modrm
  if m.mod = 3#2 then
    match m.reg.toNat with
    | 0 => pure (.faddStSti m.rm)
    | 1 => pure (.fmulStSti m.rm)
    | 2 => pure (.fcomSti m.rm)
    | 3 => pure (.fcompSti m.rm)
    | 4 => pure (.fsubStSti m.rm)
    | 5 => pure (.fsubrStSti m.rm)
    | 6 => pure (.fdivStSti m.rm)
    | _ => pure (.fdivrStSti m.rm)
  else
    match m.reg.toNat with
    | 0 => memOnly seg m .faddM32
    | 1 => memOnly seg m .fmulM32
    | 2 => memOnly seg m .fcomM32
    | 3 => memOnly seg m .fcompM32
    | 4 => memOnly seg m .fsubM32
    | 5 => memOnly seg m .fsubrM32
    | 6 => memOnly seg m .fdivM32
    | _ => memOnly seg m .fdivrM32

noncomputable def opD9 (seg : Option SReg) : Dec Instr := do
  let m ← modrm
  if m.mod = 3#2 then
    match m.reg.toNat with
    | 0 => pure (.fldSti m.rm)
    | 1 => pure (.fxchSti m.rm)
    | 2 => (match m.rm.toNat with | 0 => pure .fnop | _ => bad)
    | 4 => (match m.rm.toNat with | 0 => pure .fchs | 1 => pure .fabs | 4 => pure .ftst | 5 => pure .fxam | _ => bad)
    | 5 => (match m.rm.toNat with | 0 => pure .fld1 | 1 => pure .fldl2t | 2 => pure .fldl2e | 3 => pure .fldpi | 4 => pure .fldlg2 | 5 => pure .fldln2 | 6 => pure .fldz | _ => bad)
    | 6 => (match m.rm.toNat with | 6 => pure .fdecstp | 7 => pure .fincstp | _ => bad)
    | 7 => (match m.rm.toNat with | 2 => pure .fsqrt | 4 => pure .frndint | _ => bad)
    | _ => bad
  else
    match m.reg.toNat with
    | 0 => memOnly seg m .fldM32
    | 2 => memOnly seg m .fstM32
    | 3 => memOnly seg m .fstpM32
    | 5 => memOnly seg m .fldcwM16
    | 7 => memOnly seg m .fnstcwM16
    | _ => bad

noncomputable def opDA (seg : Option SReg) : Dec Instr := do
  let m ← modrm
  if m.mod = 3#2 then bad else
    match m.reg.toNat with
    | 0 => memOnly seg m .fiaddM32
    | 1 => memOnly seg m .fimulM32
    | 2 => memOnly seg m .ficomM32
    | 3 => memOnly seg m .ficompM32
    | 4 => memOnly seg m .fisubM32
    | 5 => memOnly seg m .fisubrM32
    | 6 => memOnly seg m .fidivM32
    | _ => memOnly seg m .fidivrM32

noncomputable def opDB (seg : Option SReg) : Dec Instr := do
  let m ← modrm
  if m.mod = 3#2 then
    match m.reg.toNat with
    | 4 => (match m.rm.toNat with | 2 => pure .fnclex | 3 => pure .fninit | _ => bad)
    | _ => bad
  else
    match m.reg.toNat with
    | 0 => memOnly seg m .fildM32
    | 2 => memOnly seg m .fistM32
    | 3 => memOnly seg m .fistpM32
    | 5 => memOnly seg m .fldM80
    | 7 => memOnly seg m .fstpM80
    | _ => bad

noncomputable def opDC (seg : Option SReg) : Dec Instr := do
  let m ← modrm
  if m.mod = 3#2 then
    match m.reg.toNat with
    | 0 => pure (.faddStiSt m.rm)
    | 1 => pure (.fmulStiSt m.rm)
    | 4 => pure (.fsubrStiSt m.rm)
    | 5 => pure (.fsubStiSt m.rm)
    | 6 => pure (.fdivrStiSt m.rm)
    | 7 => pure (.fdivStiSt m.rm)
    | _ => bad
  else
    match m.reg.toNat with
    | 0 => memOnly seg m .faddM64
    | 1 => memOnly seg m .fmulM64
    | 2 => memOnly seg m .fcomM64
    | 3 => memOnly seg m .fcompM64
    | 4 => memOnly seg m .fsubM64
    | 5 => memOnly seg m .fsubrM64
    | 6 => memOnly seg m .fdivM64
    | _ => memOnly seg m .fdivrM64

noncomputable def opDD (seg : Option SReg) : Dec Instr := do
  let m ← modrm
  if m.mod = 3#2 then
    match m.reg.toNat with
    | 0 => pure (.ffreeSti m.rm)
    | 2 => pure (.fstSti m.rm)
    | 3 => pure (.fstpSti m.rm)
    | _ => bad
  else
    match m.reg.toNat with
    | 0 => memOnly seg m .fldM64
    | 2 => memOnly seg m .fstM64
    | 3 => memOnly seg m .fstpM64
    | 7 => memOnly seg m .fnstswM16
    | _ => bad

noncomputable def opDE (seg : Option SReg) : Dec Instr := do
  let m ← modrm
  if m.mod = 3#2 then
    match m.reg.toNat with
    | 0 => pure (.faddpStiSt m.rm)
    | 1 => pure (.fmulpStiSt m.rm)
    | 3 => (match m.rm.toNat with | 1 => pure .fcompp | _ => bad)
    | 4 => pure (.fsubrpStiSt m.rm)
    | 5 => pure (.fsubpStiSt m.rm)
    | 6 => pure (.fdivrpStiSt m.rm)
    | 7 => pure (.fdivpStiSt m.rm)
    | _ => bad
  else
    match m.reg.toNat with
    | 0 => memOnly seg m .fiaddM16
    | 1 => memOnly seg m .fimulM16
    | 2 => memOnly seg m .ficomM16
    | 3 => memOnly seg m .ficompM16
    | 4 => memOnly seg m .fisubM16
    | 5 => memOnly seg m .fisubrM16
    | 6 => memOnly seg m .fidivM16
    | _ => memOnly seg m .fidivrM16

noncomputable def opDF (seg : Option SReg) : Dec Instr := do
  let m ← modrm
  if m.mod = 3#2 then
    match m.reg.toNat with
    | 4 => (match m.rm.toNat with | 0 => pure .fnstswAx | _ => bad)
    | _ => bad
  else
    match m.reg.toNat with
    | 0 => memOnly seg m .fildM16
    | 2 => memOnly seg m .fistM16
    | 3 => memOnly seg m .fistpM16
    | 5 => memOnly seg m .fildM64
    | 7 => memOnly seg m .fistpM64
    | _ => bad

def opF6 (seg : Option SReg) : Dec Instr := do
  let m ← modrm
  match m.reg.toNat with
  | 0 => m8Imm8 seg m .testRm8Imm8
  | 2 => m8 seg m .notRm8
  | 3 => m8 seg m .negRm8
  | 4 => m8 seg m .mulRm8
  | 5 => m8 seg m .imulRm8
  | 6 => m8 seg m .divRm8
  | 7 => m8 seg m .idivRm8
  | _ => bad

noncomputable def opF7 (seg : Option SReg) : Dec Instr := do
  let m ← modrm
  match m.reg.toNat with
  | 0 => m16Imm16 seg m .testRm16Imm16
  | 2 => m16 seg m .notRm16
  | 3 => m16 seg m .negRm16
  | 4 => m16 seg m .mulRm16
  | 5 => m16 seg m .imulRm16
  | 6 => m16 seg m .divRm16
  | 7 => m16 seg m .idivRm16
  | _ => bad

noncomputable def opFE (seg : Option SReg) : Dec Instr := do
  let m ← modrm
  match m.reg.toNat with
  | 0 => m8 seg m .incRm8
  | 1 => m8 seg m .decRm8
  | _ => bad

noncomputable def opFF (seg : Option SReg) : Dec Instr := do
  let m ← modrm
  match m.reg.toNat with
  | 0 => m16 seg m .incRm16
  | 1 => m16 seg m .decRm16
  | 2 => m16 seg m .callRm16
  | 3 => memOnly seg m .callM1616
  | 4 => m16 seg m .jmpRm16
  | 5 => memOnly seg m .jmpM1616
  | 6 => m16 seg m .pushRm16
  | _ => bad

/-! ## The one-byte opcode map (30_encoding R137), one function for each high nibble -/

def row0 (c : PfxCtx) (lo : Nat) : Dec Instr :=
  let seg := c.seg
  match lo with
  | 0 => mr8 seg .addRm8R8
  | 1 => mr16 seg .addRm16R16
  | 2 => rm8 seg .addR8Rm8
  | 3 => rm16 seg .addR16Rm16
  | 4 => imm8 .addAlImm8
  | 5 => imm16 .addAxImm16
  | 6 => pure .pushEs
  | 7 => pure .popEs
  | 8 => mr8 seg .orRm8R8
  | 9 => mr16 seg .orRm16R16
  | 10 => rm8 seg .orR8Rm8
  | 11 => rm16 seg .orR16Rm16
  | 12 => imm8 .orAlImm8
  | 13 => imm16 .orAxImm16
  | 14 => pure .pushCs
  | _ => bad

def row1 (c : PfxCtx) (lo : Nat) : Dec Instr :=
  let seg := c.seg
  match lo with
  | 0 => mr8 seg .adcRm8R8
  | 1 => mr16 seg .adcRm16R16
  | 2 => rm8 seg .adcR8Rm8
  | 3 => rm16 seg .adcR16Rm16
  | 4 => imm8 .adcAlImm8
  | 5 => imm16 .adcAxImm16
  | 6 => pure .pushSs
  | 7 => pure .popSs
  | 8 => mr8 seg .sbbRm8R8
  | 9 => mr16 seg .sbbRm16R16
  | 10 => rm8 seg .sbbR8Rm8
  | 11 => rm16 seg .sbbR16Rm16
  | 12 => imm8 .sbbAlImm8
  | 13 => imm16 .sbbAxImm16
  | 14 => pure .pushDs
  | _ => pure .popDs

def row2 (c : PfxCtx) (lo : Nat) : Dec Instr :=
  let seg := c.seg
  match lo with
  | 0 => mr8 seg .andRm8R8
  | 1 => mr16 seg .andRm16R16
  | 2 => rm8 seg .andR8Rm8
  | 3 => rm16 seg .andR16Rm16
  | 4 => imm8 .andAlImm8
  | 5 => imm16 .andAxImm16
  | 8 => mr8 seg .subRm8R8
  | 9 => mr16 seg .subRm16R16
  | 10 => rm8 seg .subR8Rm8
  | 11 => rm16 seg .subR16Rm16
  | 12 => imm8 .subAlImm8
  | 13 => imm16 .subAxImm16
  | _ => bad

def row3 (c : PfxCtx) (lo : Nat) : Dec Instr :=
  let seg := c.seg
  match lo with
  | 0 => mr8 seg .xorRm8R8
  | 1 => mr16 seg .xorRm16R16
  | 2 => rm8 seg .xorR8Rm8
  | 3 => rm16 seg .xorR16Rm16
  | 4 => imm8 .xorAlImm8
  | 5 => imm16 .xorAxImm16
  | 8 => mr8 seg .cmpRm8R8
  | 9 => mr16 seg .cmpRm16R16
  | 10 => rm8 seg .cmpR8Rm8
  | 11 => rm16 seg .cmpR16Rm16
  | 12 => imm8 .cmpAlImm8
  | 13 => imm16 .cmpAxImm16
  | _ => bad

def row4 (_c : PfxCtx) (lo : Nat) : Dec Instr :=
  match lo with
  | 0 => pure (.incR16 .ax)
  | 1 => pure (.incR16 .cx)
  | 2 => pure (.incR16 .dx)
  | 3 => pure (.incR16 .bx)
  | 4 => pure (.incR16 .sp)
  | 5 => pure (.incR16 .bp)
  | 6 => pure (.incR16 .si)
  | 7 => pure (.incR16 .di)
  | 8 => pure (.decR16 .ax)
  | 9 => pure (.decR16 .cx)
  | 10 => pure (.decR16 .dx)
  | 11 => pure (.decR16 .bx)
  | 12 => pure (.decR16 .sp)
  | 13 => pure (.decR16 .bp)
  | 14 => pure (.decR16 .si)
  | _ => pure (.decR16 .di)

def row5 (_c : PfxCtx) (lo : Nat) : Dec Instr :=
  match lo with
  | 0 => pure (.pushR16 .ax)
  | 1 => pure (.pushR16 .cx)
  | 2 => pure (.pushR16 .dx)
  | 3 => pure (.pushR16 .bx)
  | 4 => pure (.pushR16 .sp)
  | 5 => pure (.pushR16 .bp)
  | 6 => pure (.pushR16 .si)
  | 7 => pure (.pushR16 .di)
  | 8 => pure (.popR16 .ax)
  | 9 => pure (.popR16 .cx)
  | 10 => pure (.popR16 .dx)
  | 11 => pure (.popR16 .bx)
  | 12 => pure (.popR16 .sp)
  | 13 => pure (.popR16 .bp)
  | 14 => pure (.popR16 .si)
  | _ => pure (.popR16 .di)

def row6 (c : PfxCtx) (lo : Nat) : Dec Instr :=
  let seg := c.seg
  match lo with
  | 0 => pure .pusha
  | 1 => pure .popa
  | 2 => rmMem seg .boundR16M1616
  | 8 => imm16 .pushImm16
  | 9 => rmImm16 seg .imulR16Rm16Imm16
  | 10 => imm8 .pushImm8
  | 11 => rmImm8 seg .imulR16Rm16Imm8
  | _ => bad

def row7 (_c : PfxCtx) (lo : Nat) : Dec Instr :=
  match lo with
  | 0 => imm8 .joRel8
  | 1 => imm8 .jnoRel8
  | 2 => imm8 .jbRel8
  | 3 => imm8 .jnbRel8
  | 4 => imm8 .jzRel8
  | 5 => imm8 .jnzRel8
  | 6 => imm8 .jbeRel8
  | 7 => imm8 .jnbeRel8
  | 8 => imm8 .jsRel8
  | 9 => imm8 .jnsRel8
  | 10 => imm8 .jpRel8
  | 11 => imm8 .jnpRel8
  | 12 => imm8 .jlRel8
  | 13 => imm8 .jnlRel8
  | 14 => imm8 .jleRel8
  | _ => imm8 .jnleRel8

def row8 (c : PfxCtx) (lo : Nat) : Dec Instr :=
  let seg := c.seg
  match lo with
  | 0 => op80 seg
  | 1 => op81 seg
  | 3 => op83 seg
  | 4 => mr8 seg .testRm8R8
  | 5 => mr16 seg .testRm16R16
  | 6 => rm8 seg .xchgR8Rm8
  | 7 => rm16 seg .xchgR16Rm16
  | 8 => mr8 seg .movRm8R8
  | 9 => mr16 seg .movRm16R16
  | 10 => rm8 seg .movR8Rm8
  | 11 => rm16 seg .movR16Rm16
  | 12 => op8C seg
  | 13 => rmMem seg .leaR16M
  | 14 => op8E seg
  | 15 => op8F seg
  | _ => bad

def row9 (_c : PfxCtx) (lo : Nat) : Dec Instr :=
  match lo with
  | 0 => pure .nop
  | 1 => pure .xchgAxCx
  | 2 => pure .xchgAxDx
  | 3 => pure .xchgAxBx
  | 4 => pure .xchgAxSp
  | 5 => pure .xchgAxBp
  | 6 => pure .xchgAxSi
  | 7 => pure .xchgAxDi
  | 8 => pure .cbw
  | 9 => pure .cwd
  | 10 => far .callPtr1616
  | 11 => pure .wait
  | 12 => pure .pushf
  | 13 => pure .popf
  | 14 => pure .sahf
  | _ => pure .lahf

def rowA (c : PfxCtx) (lo : Nat) : Dec Instr :=
  let seg := c.seg
  match lo with
  | 0 => moffs seg .movAlMoffs8
  | 1 => moffs seg .movAxMoffs16
  | 2 => moffs seg .movMoffs8Al
  | 3 => moffs seg .movMoffs16Ax
  | 4 => pure (.movsb (seg.getD .ds) c.rep)
  | 5 => pure (.movsw (seg.getD .ds) c.rep)
  | 6 => pure (.cmpsb (seg.getD .ds) c.rep)
  | 7 => pure (.cmpsw (seg.getD .ds) c.rep)
  | 8 => imm8 .testAlImm8
  | 9 => imm16 .testAxImm16
  | 10 => pure (.stosb c.rep)
  | 11 => pure (.stosw c.rep)
  | 12 => pure (.lodsb (seg.getD .ds) c.rep)
  | 13 => pure (.lodsw (seg.getD .ds) c.rep)
  | 14 => pure (.scasb c.rep)
  | _ => pure (.scasw c.rep)

def rowB (_c : PfxCtx) (lo : Nat) : Dec Instr :=
  match lo with
  | 0 => imm8 (.movR8Imm8 .al)
  | 1 => imm8 (.movR8Imm8 .cl)
  | 2 => imm8 (.movR8Imm8 .dl)
  | 3 => imm8 (.movR8Imm8 .bl)
  | 4 => imm8 (.movR8Imm8 .ah)
  | 5 => imm8 (.movR8Imm8 .ch)
  | 6 => imm8 (.movR8Imm8 .dh)
  | 7 => imm8 (.movR8Imm8 .bh)
  | 8 => imm16 (.movR16Imm16 .ax)
  | 9 => imm16 (.movR16Imm16 .cx)
  | 10 => imm16 (.movR16Imm16 .dx)
  | 11 => imm16 (.movR16Imm16 .bx)
  | 12 => imm16 (.movR16Imm16 .sp)
  | 13 => imm16 (.movR16Imm16 .bp)
  | 14 => imm16 (.movR16Imm16 .si)
  | _ => imm16 (.movR16Imm16 .di)

def rowC (c : PfxCtx) (lo : Nat) : Dec Instr :=
  let seg := c.seg
  match lo with
  | 0 => opC0 seg
  | 1 => opC1 seg
  | 2 => imm16 .retImm16
  | 3 => pure .ret
  | 4 => rmMem seg .lesR16M1616
  | 5 => rmMem seg .ldsR16M1616
  | 6 => opC6 seg
  | 7 => opC7 seg
  | 8 => imm16Imm8 .enterImm16Imm8
  | 9 => pure .leave
  | 10 => imm16 .retfImm16
  | 11 => pure .retf
  | 12 => pure .int3
  | 13 => imm8 .intImm8
  | 14 => pure .into
  | _ => pure .iret

noncomputable def rowD (c : PfxCtx) (lo : Nat) : Dec Instr :=
  let seg := c.seg
  match lo with
  | 0 => opD0 seg
  | 1 => opD1 seg
  | 2 => opD2 seg
  | 3 => opD3 seg
  | 7 => pure (.xlat (seg.getD .ds))
  | 8 => opD8 seg
  | 9 => opD9 seg
  | 10 => opDA seg
  | 11 => opDB seg
  | 12 => opDC seg
  | 13 => opDD seg
  | 14 => opDE seg
  | 15 => opDF seg
  | _ => bad

def rowE (_c : PfxCtx) (lo : Nat) : Dec Instr :=
  match lo with
  | 0 => imm8 .loopneRel8
  | 1 => imm8 .loopeRel8
  | 2 => imm8 .loopRel8
  | 3 => imm8 .jcxzRel8
  | 8 => imm16 .callRel16
  | 9 => imm16 .jmpRel16
  | 10 => far .jmpPtr1616
  | 11 => imm8 .jmpRel8
  | _ => bad

noncomputable def rowF (c : PfxCtx) (lo : Nat) : Dec Instr :=
  let seg := c.seg
  match lo with
  | 4 => pure .hlt
  | 5 => pure .cmc
  | 6 => opF6 seg
  | 7 => opF7 seg
  | 8 => pure .clc
  | 9 => pure .stc
  | 10 => pure .cli
  | 11 => pure .sti
  | 12 => pure .cld
  | 13 => pure .std
  | 14 => opFE seg
  | 15 => opFF seg
  | _ => bad

/-- The instruction that begins with opcode byte `b`, under the prefix record `c` (30_encoding R137). -/
noncomputable def opcode (c : PfxCtx) (b : Byte) : Dec Instr :=
  let lo := (b.extractLsb' 0 4).toNat
  match (b.extractLsb' 4 4).toNat with
  | 0 => row0 c lo
  | 1 => row1 c lo
  | 2 => row2 c lo
  | 3 => row3 c lo
  | 4 => row4 c lo
  | 5 => row5 c lo
  | 6 => row6 c lo
  | 7 => row7 c lo
  | 8 => row8 c lo
  | 9 => row9 c lo
  | 10 => rowA c lo
  | 11 => rowB c lo
  | 12 => rowC c lo
  | 13 => rowD c lo
  | 14 => rowE c lo
  | _ => rowF c lo

/-- The prefix bytes (30_encoding R123). -/
def pfxOf (b : Byte) : Option Pfx :=
  match b.toNat with
  | 0x26 => some (.seg .es)
  | 0x2E => some (.seg .cs)
  | 0x36 => some (.seg .ss)
  | 0x3E => some (.seg .ds)
  | 0xF0 => some .lock
  | 0xF2 => some (.rep .repne)
  | 0xF3 => some (.rep .rep)
  | _ => none

/-- The ten string opcodes, the only ones a repeat prefix may precede (30_encoding R125). -/
def isString (b : Byte) : Bool :=
  match b.toNat with
  | 0xA4 | 0xA5 | 0xA6 | 0xA7 | 0xAA | 0xAB | 0xAC | 0xAD | 0xAE | 0xAF => true
  | _ => false

/-- The instruction that a prefix makes of the one after it. -/
def wrap : Pfx → Instr → Instr
  | .seg .es => .esPrefix
  | .seg .cs => .csPrefix
  | .seg .ss => .ssPrefix
  | .seg .ds => .dsPrefix
  | .lock => .lockPrefix
  | .rep .repne => .repnePrefix
  | .rep .rep => .repPrefix

end Decode

/-- One instruction with its prefixes, when the prefix record `c` is already in force; with it, the bytes left
(30_encoding R122, R123, R125). -/
noncomputable def decodeFrom (c : PfxCtx) : List Byte → Except DecodeError (Instr × List Byte)
  | [] => .error .truncated
  | b :: bs =>
    match Decode.pfxOf b with
    | some p =>
      match decodeFrom (c.add p) bs with
      | .ok (i, rest) => .ok (Decode.wrap p i, rest)
      | .error e => .error e
    | none =>
      if c.rep.isSome && !Decode.isString b then .error .invalid
      else Decode.opcode c b bs

/-- `Decode` of 30_encoding R122 on the bytes at hand: the instruction and its length.
No more than 15 bytes are looked at; an instruction not complete by then is invalid (R127). -/
noncomputable def decode (bs : List Byte) : Except DecodeError (Instr × Nat) :=
  let head := bs.take Config.maxInsnLen
  match decodeFrom {} head with
  | .ok (i, rest) => .ok (i, head.length - rest.length)
  | .error .invalid => .error .invalid
  | .error .truncated =>
    if Config.maxInsnLen ≤ bs.length then .error .invalid else .error .truncated

/-! ## The encoder -/

def R16.num : R16 → BitVec 3
  | .ax => 0 | .cx => 1 | .dx => 2 | .bx => 3 | .sp => 4 | .bp => 5 | .si => 6 | .di => 7

def R8.num : R8 → BitVec 3
  | .al => 0 | .cl => 1 | .dl => 2 | .bl => 3 | .ah => 4 | .ch => 5 | .dh => 6 | .bh => 7

def Base.num : Base → BitVec 3
  | .bxsi => 0 | .bxdi => 1 | .bpsi => 2 | .bpdi => 3 | .si => 4 | .di => 5 | .bp => 6 | .bx => 7

namespace Encode

/-- A word in memory order: low byte first (20_memory R82). -/
def word (w : Word) : List Byte := [w.extractLsb' 0 8, w.extractLsb' 8 8]

/-- The ModRM byte of its three fields (30_encoding R129). -/
def modrm (mod : BitVec 2) (reg rm : BitVec 3) : Byte := mod ++ reg ++ rm

/-- A ModRM byte for a memory operand, with its displacement (30_encoding R130). -/
def ea (reg : BitVec 3) : Ea → List Byte
  | .plain b => [modrm 0 reg b.num]
  | .disp8 b d => [modrm 1 reg b.num, d]
  | .disp16 b d => modrm 2 reg b.num :: word d
  | .direct d => modrm 0 reg 6 :: word d

/-- A ModRM byte for a memory-only operand; the segment is the prefixes' to say. -/
def mem (reg : BitVec 3) (m : Mem) : List Byte := ea reg m.ea

def rm8 (reg : BitVec 3) : Rm8 → List Byte
  | .reg r => [modrm 3 reg r.num]
  | .mem m => mem reg m

def rm16 (reg : BitVec 3) : Rm16 → List Byte
  | .reg r => [modrm 3 reg r.num]
  | .mem m => mem reg m

/-- An x87 register form: the second byte's high five bits, then the stack index (30_encoding R139). -/
def st (base : BitVec 5) (i : StIdx) : Byte := base ++ i

/-- An opcode with a register in its low three bits (30_encoding R136, format `O`). -/
def plusReg (base : BitVec 5) (r : BitVec 3) : Byte := base ++ r

end Encode

/-- A prefix's byte (30_encoding R123). -/
def Pfx.code : Pfx → Byte
  | .seg .es => 0x26
  | .seg .cs => 0x2E
  | .seg .ss => 0x36
  | .seg .ds => 0x3E
  | .lock => 0xF0
  | .rep .repne => 0xF2
  | .rep .rep => 0xF3

open Encode in
/-- The bytes of an instruction after its prefixes (30_encoding R137 to R139, 47_x87_instructions R390). -/
def Instr.encodeBody : Instr → List Byte
  | .addRm8R8 d r => 0x00 :: rm8 r.num d
  | .addRm16R16 d r => 0x01 :: rm16 r.num d
  | .addR8Rm8 r x => 0x02 :: rm8 r.num x
  | .addR16Rm16 r x => 0x03 :: rm16 r.num x
  | .addAlImm8 imm => 0x04 :: [imm]
  | .addAxImm16 imm => 0x05 :: word imm
  | .orRm8R8 d r => 0x08 :: rm8 r.num d
  | .orRm16R16 d r => 0x09 :: rm16 r.num d
  | .orR8Rm8 r x => 0x0A :: rm8 r.num x
  | .orR16Rm16 r x => 0x0B :: rm16 r.num x
  | .orAlImm8 imm => 0x0C :: [imm]
  | .orAxImm16 imm => 0x0D :: word imm
  | .adcRm8R8 d r => 0x10 :: rm8 r.num d
  | .adcRm16R16 d r => 0x11 :: rm16 r.num d
  | .adcR8Rm8 r x => 0x12 :: rm8 r.num x
  | .adcR16Rm16 r x => 0x13 :: rm16 r.num x
  | .adcAlImm8 imm => 0x14 :: [imm]
  | .adcAxImm16 imm => 0x15 :: word imm
  | .sbbRm8R8 d r => 0x18 :: rm8 r.num d
  | .sbbRm16R16 d r => 0x19 :: rm16 r.num d
  | .sbbR8Rm8 r x => 0x1A :: rm8 r.num x
  | .sbbR16Rm16 r x => 0x1B :: rm16 r.num x
  | .sbbAlImm8 imm => 0x1C :: [imm]
  | .sbbAxImm16 imm => 0x1D :: word imm
  | .andRm8R8 d r => 0x20 :: rm8 r.num d
  | .andRm16R16 d r => 0x21 :: rm16 r.num d
  | .andR8Rm8 r x => 0x22 :: rm8 r.num x
  | .andR16Rm16 r x => 0x23 :: rm16 r.num x
  | .andAlImm8 imm => 0x24 :: [imm]
  | .andAxImm16 imm => 0x25 :: word imm
  | .subRm8R8 d r => 0x28 :: rm8 r.num d
  | .subRm16R16 d r => 0x29 :: rm16 r.num d
  | .subR8Rm8 r x => 0x2A :: rm8 r.num x
  | .subR16Rm16 r x => 0x2B :: rm16 r.num x
  | .subAlImm8 imm => 0x2C :: [imm]
  | .subAxImm16 imm => 0x2D :: word imm
  | .xorRm8R8 d r => 0x30 :: rm8 r.num d
  | .xorRm16R16 d r => 0x31 :: rm16 r.num d
  | .xorR8Rm8 r x => 0x32 :: rm8 r.num x
  | .xorR16Rm16 r x => 0x33 :: rm16 r.num x
  | .xorAlImm8 imm => 0x34 :: [imm]
  | .xorAxImm16 imm => 0x35 :: word imm
  | .cmpRm8R8 d r => 0x38 :: rm8 r.num d
  | .cmpRm16R16 d r => 0x39 :: rm16 r.num d
  | .cmpR8Rm8 r x => 0x3A :: rm8 r.num x
  | .cmpR16Rm16 r x => 0x3B :: rm16 r.num x
  | .cmpAlImm8 imm => 0x3C :: [imm]
  | .cmpAxImm16 imm => 0x3D :: word imm
  | .pushEs => [0x06]
  | .pushCs => [0x0E]
  | .pushSs => [0x16]
  | .pushDs => [0x1E]
  | .popEs => [0x07]
  | .popSs => [0x17]
  | .popDs => [0x1F]
  | .incR16 r => [plusReg 0b1000 r.num]
  | .decR16 r => [plusReg 0b1001 r.num]
  | .pushR16 r => [plusReg 0b1010 r.num]
  | .popR16 r => [plusReg 0b1011 r.num]
  | .pusha => [0x60]
  | .popa => [0x61]
  | .boundR16M1616 r m => 0x62 :: mem r.num m
  | .pushImm16 imm => 0x68 :: word imm
  | .imulR16Rm16Imm16 r x imm => 0x69 :: rm16 r.num x ++ word imm
  | .pushImm8 imm => 0x6A :: [imm]
  | .imulR16Rm16Imm8 r x imm => 0x6B :: rm16 r.num x ++ [imm]
  | .joRel8 rel => [0x70, rel]
  | .jnoRel8 rel => [0x71, rel]
  | .jbRel8 rel => [0x72, rel]
  | .jnbRel8 rel => [0x73, rel]
  | .jzRel8 rel => [0x74, rel]
  | .jnzRel8 rel => [0x75, rel]
  | .jbeRel8 rel => [0x76, rel]
  | .jnbeRel8 rel => [0x77, rel]
  | .jsRel8 rel => [0x78, rel]
  | .jnsRel8 rel => [0x79, rel]
  | .jpRel8 rel => [0x7A, rel]
  | .jnpRel8 rel => [0x7B, rel]
  | .jlRel8 rel => [0x7C, rel]
  | .jnlRel8 rel => [0x7D, rel]
  | .jleRel8 rel => [0x7E, rel]
  | .jnleRel8 rel => [0x7F, rel]
  | .addRm8Imm8 d imm => 0x80 :: rm8 0 d ++ [imm]
  | .orRm8Imm8 d imm => 0x80 :: rm8 1 d ++ [imm]
  | .adcRm8Imm8 d imm => 0x80 :: rm8 2 d ++ [imm]
  | .sbbRm8Imm8 d imm => 0x80 :: rm8 3 d ++ [imm]
  | .andRm8Imm8 d imm => 0x80 :: rm8 4 d ++ [imm]
  | .subRm8Imm8 d imm => 0x80 :: rm8 5 d ++ [imm]
  | .xorRm8Imm8 d imm => 0x80 :: rm8 6 d ++ [imm]
  | .cmpRm8Imm8 d imm => 0x80 :: rm8 7 d ++ [imm]
  | .addRm16Imm16 d imm => 0x81 :: rm16 0 d ++ word imm
  | .orRm16Imm16 d imm => 0x81 :: rm16 1 d ++ word imm
  | .adcRm16Imm16 d imm => 0x81 :: rm16 2 d ++ word imm
  | .sbbRm16Imm16 d imm => 0x81 :: rm16 3 d ++ word imm
  | .andRm16Imm16 d imm => 0x81 :: rm16 4 d ++ word imm
  | .subRm16Imm16 d imm => 0x81 :: rm16 5 d ++ word imm
  | .xorRm16Imm16 d imm => 0x81 :: rm16 6 d ++ word imm
  | .cmpRm16Imm16 d imm => 0x81 :: rm16 7 d ++ word imm
  | .addRm16Imm8 d imm => 0x83 :: rm16 0 d ++ [imm]
  | .orRm16Imm8 d imm => 0x83 :: rm16 1 d ++ [imm]
  | .adcRm16Imm8 d imm => 0x83 :: rm16 2 d ++ [imm]
  | .sbbRm16Imm8 d imm => 0x83 :: rm16 3 d ++ [imm]
  | .andRm16Imm8 d imm => 0x83 :: rm16 4 d ++ [imm]
  | .subRm16Imm8 d imm => 0x83 :: rm16 5 d ++ [imm]
  | .xorRm16Imm8 d imm => 0x83 :: rm16 6 d ++ [imm]
  | .cmpRm16Imm8 d imm => 0x83 :: rm16 7 d ++ [imm]
  | .testRm8R8 d r => 0x84 :: rm8 r.num d
  | .testRm16R16 d r => 0x85 :: rm16 r.num d
  | .xchgR8Rm8 r x => 0x86 :: rm8 r.num x
  | .xchgR16Rm16 r x => 0x87 :: rm16 r.num x
  | .movRm8R8 d r => 0x88 :: rm8 r.num d
  | .movRm16R16 d r => 0x89 :: rm16 r.num d
  | .movR8Rm8 r x => 0x8A :: rm8 r.num x
  | .movR16Rm16 r x => 0x8B :: rm16 r.num x
  | .movRm16Es d => 0x8C :: rm16 0 d
  | .movRm16Cs d => 0x8C :: rm16 1 d
  | .movRm16Ss d => 0x8C :: rm16 2 d
  | .movRm16Ds d => 0x8C :: rm16 3 d
  | .leaR16M r m => 0x8D :: mem r.num m
  | .movEsRm16 d => 0x8E :: rm16 0 d
  | .movSsRm16 d => 0x8E :: rm16 2 d
  | .movDsRm16 d => 0x8E :: rm16 3 d
  | .popRm16 d => 0x8F :: rm16 0 d
  | .nop => [0x90]
  | .xchgAxCx => [0x91]
  | .xchgAxDx => [0x92]
  | .xchgAxBx => [0x93]
  | .xchgAxSp => [0x94]
  | .xchgAxBp => [0x95]
  | .xchgAxSi => [0x96]
  | .xchgAxDi => [0x97]
  | .cbw => [0x98]
  | .cwd => [0x99]
  | .callPtr1616 off sel => 0x9A :: word off ++ word sel
  | .wait => [0x9B]
  | .pushf => [0x9C]
  | .popf => [0x9D]
  | .sahf => [0x9E]
  | .lahf => [0x9F]
  | .movAlMoffs8 _ off => 0xA0 :: word off
  | .movAxMoffs16 _ off => 0xA1 :: word off
  | .movMoffs8Al _ off => 0xA2 :: word off
  | .movMoffs16Ax _ off => 0xA3 :: word off
  | .movsb _ _ => [0xA4]
  | .movsw _ _ => [0xA5]
  | .cmpsb _ _ => [0xA6]
  | .cmpsw _ _ => [0xA7]
  | .testAlImm8 imm => 0xA8 :: [imm]
  | .testAxImm16 imm => 0xA9 :: word imm
  | .stosb _ => [0xAA]
  | .stosw _ => [0xAB]
  | .lodsb _ _ => [0xAC]
  | .lodsw _ _ => [0xAD]
  | .scasb _ => [0xAE]
  | .scasw _ => [0xAF]
  | .movR8Imm8 r imm => plusReg 0b10110 r.num :: [imm]
  | .movR16Imm16 r imm => plusReg 0b10111 r.num :: word imm
  | .rolRm8Imm8 d imm => 0xC0 :: rm8 0 d ++ [imm]
  | .rorRm8Imm8 d imm => 0xC0 :: rm8 1 d ++ [imm]
  | .rclRm8Imm8 d imm => 0xC0 :: rm8 2 d ++ [imm]
  | .rcrRm8Imm8 d imm => 0xC0 :: rm8 3 d ++ [imm]
  | .shlRm8Imm8 d imm => 0xC0 :: rm8 4 d ++ [imm]
  | .shrRm8Imm8 d imm => 0xC0 :: rm8 5 d ++ [imm]
  | .sarRm8Imm8 d imm => 0xC0 :: rm8 7 d ++ [imm]
  | .rolRm16Imm8 d imm => 0xC1 :: rm16 0 d ++ [imm]
  | .rorRm16Imm8 d imm => 0xC1 :: rm16 1 d ++ [imm]
  | .rclRm16Imm8 d imm => 0xC1 :: rm16 2 d ++ [imm]
  | .rcrRm16Imm8 d imm => 0xC1 :: rm16 3 d ++ [imm]
  | .shlRm16Imm8 d imm => 0xC1 :: rm16 4 d ++ [imm]
  | .shrRm16Imm8 d imm => 0xC1 :: rm16 5 d ++ [imm]
  | .sarRm16Imm8 d imm => 0xC1 :: rm16 7 d ++ [imm]
  | .rolRm8One d => 0xD0 :: rm8 0 d
  | .rorRm8One d => 0xD0 :: rm8 1 d
  | .rclRm8One d => 0xD0 :: rm8 2 d
  | .rcrRm8One d => 0xD0 :: rm8 3 d
  | .shlRm8One d => 0xD0 :: rm8 4 d
  | .shrRm8One d => 0xD0 :: rm8 5 d
  | .sarRm8One d => 0xD0 :: rm8 7 d
  | .rolRm16One d => 0xD1 :: rm16 0 d
  | .rorRm16One d => 0xD1 :: rm16 1 d
  | .rclRm16One d => 0xD1 :: rm16 2 d
  | .rcrRm16One d => 0xD1 :: rm16 3 d
  | .shlRm16One d => 0xD1 :: rm16 4 d
  | .shrRm16One d => 0xD1 :: rm16 5 d
  | .sarRm16One d => 0xD1 :: rm16 7 d
  | .rolRm8Cl d => 0xD2 :: rm8 0 d
  | .rorRm8Cl d => 0xD2 :: rm8 1 d
  | .rclRm8Cl d => 0xD2 :: rm8 2 d
  | .rcrRm8Cl d => 0xD2 :: rm8 3 d
  | .shlRm8Cl d => 0xD2 :: rm8 4 d
  | .shrRm8Cl d => 0xD2 :: rm8 5 d
  | .sarRm8Cl d => 0xD2 :: rm8 7 d
  | .rolRm16Cl d => 0xD3 :: rm16 0 d
  | .rorRm16Cl d => 0xD3 :: rm16 1 d
  | .rclRm16Cl d => 0xD3 :: rm16 2 d
  | .rcrRm16Cl d => 0xD3 :: rm16 3 d
  | .shlRm16Cl d => 0xD3 :: rm16 4 d
  | .shrRm16Cl d => 0xD3 :: rm16 5 d
  | .sarRm16Cl d => 0xD3 :: rm16 7 d
  | .retImm16 imm => 0xC2 :: word imm
  | .ret => [0xC3]
  | .lesR16M1616 r m => 0xC4 :: mem r.num m
  | .ldsR16M1616 r m => 0xC5 :: mem r.num m
  | .movRm8Imm8 d imm => 0xC6 :: rm8 0 d ++ [imm]
  | .movRm16Imm16 d imm => 0xC7 :: rm16 0 d ++ word imm
  | .enterImm16Imm8 size level => 0xC8 :: word size ++ [level]
  | .leave => [0xC9]
  | .retfImm16 imm => 0xCA :: word imm
  | .retf => [0xCB]
  | .int3 => [0xCC]
  | .intImm8 imm => 0xCD :: [imm]
  | .into => [0xCE]
  | .iret => [0xCF]
  | .xlat _ => [0xD7]
  | .loopneRel8 rel => [0xE0, rel]
  | .loopeRel8 rel => [0xE1, rel]
  | .loopRel8 rel => [0xE2, rel]
  | .jcxzRel8 rel => [0xE3, rel]
  | .callRel16 rel => 0xE8 :: word rel
  | .jmpRel16 rel => 0xE9 :: word rel
  | .jmpPtr1616 off sel => 0xEA :: word off ++ word sel
  | .jmpRel8 rel => [0xEB, rel]
  | .hlt => [0xF4]
  | .cmc => [0xF5]
  | .testRm8Imm8 d imm => 0xF6 :: rm8 0 d ++ [imm]
  | .notRm8 d => 0xF6 :: rm8 2 d
  | .negRm8 d => 0xF6 :: rm8 3 d
  | .mulRm8 d => 0xF6 :: rm8 4 d
  | .imulRm8 d => 0xF6 :: rm8 5 d
  | .divRm8 d => 0xF6 :: rm8 6 d
  | .idivRm8 d => 0xF6 :: rm8 7 d
  | .testRm16Imm16 d imm => 0xF7 :: rm16 0 d ++ word imm
  | .notRm16 d => 0xF7 :: rm16 2 d
  | .negRm16 d => 0xF7 :: rm16 3 d
  | .mulRm16 d => 0xF7 :: rm16 4 d
  | .imulRm16 d => 0xF7 :: rm16 5 d
  | .divRm16 d => 0xF7 :: rm16 6 d
  | .idivRm16 d => 0xF7 :: rm16 7 d
  | .clc => [0xF8]
  | .stc => [0xF9]
  | .cli => [0xFA]
  | .sti => [0xFB]
  | .cld => [0xFC]
  | .std => [0xFD]
  | .incRm8 d => 0xFE :: rm8 0 d
  | .decRm8 d => 0xFE :: rm8 1 d
  | .incRm16 d => 0xFF :: rm16 0 d
  | .decRm16 d => 0xFF :: rm16 1 d
  | .callRm16 d => 0xFF :: rm16 2 d
  | .callM1616 m => 0xFF :: mem 3 m
  | .jmpRm16 d => 0xFF :: rm16 4 d
  | .jmpM1616 m => 0xFF :: mem 5 m
  | .pushRm16 d => 0xFF :: rm16 6 d
  | .faddM32 m => 0xD8 :: mem 0 m
  | .fmulM32 m => 0xD8 :: mem 1 m
  | .fcomM32 m => 0xD8 :: mem 2 m
  | .fcompM32 m => 0xD8 :: mem 3 m
  | .fsubM32 m => 0xD8 :: mem 4 m
  | .fsubrM32 m => 0xD8 :: mem 5 m
  | .fdivM32 m => 0xD8 :: mem 6 m
  | .fdivrM32 m => 0xD8 :: mem 7 m
  | .faddM64 m => 0xDC :: mem 0 m
  | .fmulM64 m => 0xDC :: mem 1 m
  | .fcomM64 m => 0xDC :: mem 2 m
  | .fcompM64 m => 0xDC :: mem 3 m
  | .fsubM64 m => 0xDC :: mem 4 m
  | .fsubrM64 m => 0xDC :: mem 5 m
  | .fdivM64 m => 0xDC :: mem 6 m
  | .fdivrM64 m => 0xDC :: mem 7 m
  | .fiaddM32 m => 0xDA :: mem 0 m
  | .fimulM32 m => 0xDA :: mem 1 m
  | .ficomM32 m => 0xDA :: mem 2 m
  | .ficompM32 m => 0xDA :: mem 3 m
  | .fisubM32 m => 0xDA :: mem 4 m
  | .fisubrM32 m => 0xDA :: mem 5 m
  | .fidivM32 m => 0xDA :: mem 6 m
  | .fidivrM32 m => 0xDA :: mem 7 m
  | .fiaddM16 m => 0xDE :: mem 0 m
  | .fimulM16 m => 0xDE :: mem 1 m
  | .ficomM16 m => 0xDE :: mem 2 m
  | .ficompM16 m => 0xDE :: mem 3 m
  | .fisubM16 m => 0xDE :: mem 4 m
  | .fisubrM16 m => 0xDE :: mem 5 m
  | .fidivM16 m => 0xDE :: mem 6 m
  | .fidivrM16 m => 0xDE :: mem 7 m
  | .fldM32 m => 0xD9 :: mem 0 m
  | .fstM32 m => 0xD9 :: mem 2 m
  | .fstpM32 m => 0xD9 :: mem 3 m
  | .fldcwM16 m => 0xD9 :: mem 5 m
  | .fnstcwM16 m => 0xD9 :: mem 7 m
  | .fildM32 m => 0xDB :: mem 0 m
  | .fistM32 m => 0xDB :: mem 2 m
  | .fistpM32 m => 0xDB :: mem 3 m
  | .fldM80 m => 0xDB :: mem 5 m
  | .fstpM80 m => 0xDB :: mem 7 m
  | .fldM64 m => 0xDD :: mem 0 m
  | .fstM64 m => 0xDD :: mem 2 m
  | .fstpM64 m => 0xDD :: mem 3 m
  | .fnstswM16 m => 0xDD :: mem 7 m
  | .fildM16 m => 0xDF :: mem 0 m
  | .fistM16 m => 0xDF :: mem 2 m
  | .fistpM16 m => 0xDF :: mem 3 m
  | .fildM64 m => 0xDF :: mem 5 m
  | .fistpM64 m => 0xDF :: mem 7 m
  | .faddStSti i => [0xD8, st 0b11000 i]
  | .fmulStSti i => [0xD8, st 0b11001 i]
  | .fcomSti i => [0xD8, st 0b11010 i]
  | .fcompSti i => [0xD8, st 0b11011 i]
  | .fsubStSti i => [0xD8, st 0b11100 i]
  | .fsubrStSti i => [0xD8, st 0b11101 i]
  | .fdivStSti i => [0xD8, st 0b11110 i]
  | .fdivrStSti i => [0xD8, st 0b11111 i]
  | .fldSti i => [0xD9, st 0b11000 i]
  | .fxchSti i => [0xD9, st 0b11001 i]
  | .fnop => [0xD9, 0xD0]
  | .fchs => [0xD9, 0xE0]
  | .fabs => [0xD9, 0xE1]
  | .ftst => [0xD9, 0xE4]
  | .fxam => [0xD9, 0xE5]
  | .fld1 => [0xD9, 0xE8]
  | .fldl2t => [0xD9, 0xE9]
  | .fldl2e => [0xD9, 0xEA]
  | .fldpi => [0xD9, 0xEB]
  | .fldlg2 => [0xD9, 0xEC]
  | .fldln2 => [0xD9, 0xED]
  | .fldz => [0xD9, 0xEE]
  | .fdecstp => [0xD9, 0xF6]
  | .fincstp => [0xD9, 0xF7]
  | .fsqrt => [0xD9, 0xFA]
  | .frndint => [0xD9, 0xFC]
  | .fnclex => [0xDB, 0xE2]
  | .fninit => [0xDB, 0xE3]
  | .faddStiSt i => [0xDC, st 0b11000 i]
  | .fmulStiSt i => [0xDC, st 0b11001 i]
  | .fsubrStiSt i => [0xDC, st 0b11100 i]
  | .fsubStiSt i => [0xDC, st 0b11101 i]
  | .fdivrStiSt i => [0xDC, st 0b11110 i]
  | .fdivStiSt i => [0xDC, st 0b11111 i]
  | .ffreeSti i => [0xDD, st 0b11000 i]
  | .fstSti i => [0xDD, st 0b11010 i]
  | .fstpSti i => [0xDD, st 0b11011 i]
  | .faddpStiSt i => [0xDE, st 0b11000 i]
  | .fmulpStiSt i => [0xDE, st 0b11001 i]
  | .fsubrpStiSt i => [0xDE, st 0b11100 i]
  | .fsubpStiSt i => [0xDE, st 0b11101 i]
  | .fdivrpStiSt i => [0xDE, st 0b11110 i]
  | .fdivpStiSt i => [0xDE, st 0b11111 i]
  | .fcompp => [0xDE, 0xD9]
  | .fnstswAx => [0xDF, 0xE0]
  | .esPrefix _ | .csPrefix _ | .ssPrefix _ | .dsPrefix _ => []
  | .lockPrefix _ => []
  | .repnePrefix _ | .repPrefix _ => []

/-- The bytes of a well-formed instruction: its prefixes in order, then its body. -/
def encode (i : Instr) : List Byte := i.prefixes.map Pfx.code ++ i.body.encodeBody

/-! ## Words as the opcode table numbers them -/

/-- The bytes of a table word: bit 0 is the least significant bit of the first byte, a later byte's bits count on
from it, and every bit above `nbits` is 0. -/
def tableBytes (nbits w : Nat) : List Byte :=
  (List.range Config.maxInsnLen).map (fun k => BitVec.ofNat 8 (w % 2 ^ nbits / 2 ^ (8 * k)))

/-- The instruction the decoder reads from an instruction whose bits are `w`. -/
noncomputable def decodeTableWord (nbits w : Nat) : Option Instr :=
  match decode (tableBytes nbits w) with
  | .ok (i, _) => some i
  | .error _ => none

end Sys2Proof
end

