-- ==== Sys2Proof/Machine/State.lean ====
section
/-! DEFINITION. The architectural state, whole, as plain data (10_state), its reset value (10_state R60,
70_reset_and_hazards R500, R502), and the reasons a step can stop (60_exceptions R460). -/

namespace Sys2Proof.Machine

/-- The eight general registers (10_state R30). The byte registers are views of `ax cx dx bx` (R32). -/
structure Gpr where
  ax : Word
  cx : Word
  dx : Word
  bx : Word
  sp : Word
  bp : Word
  si : Word
  di : Word
deriving DecidableEq, Repr

/-- The four segment registers; each holds a selector, with nothing hidden behind it (10_state R33). -/
structure SegRegs where
  es : Word
  cs : Word
  ss : Word
  ds : Word
deriving DecidableEq, Repr

/-- The nine flags (10_state R40); the 16-bit image `FLAGS` is a view of them (R41). -/
structure Flags where
  CF : Bool
  PF : Bool
  AF : Bool
  ZF : Bool
  SF : Bool
  TF : Bool
  IF : Bool
  DF : Bool
  OF : Bool
deriving DecidableEq, Repr

/-- A slot of the Floating-Point Stack: a value, and its tag, `true` for occupied (10_state R50). -/
structure Slot where
  val : F80
  occupied : Bool
deriving DecidableEq, Repr

/-- The physical slots `FR[0]` to `FR[7]` (10_state R50). -/
structure Slots where
  f0 : Slot
  f1 : Slot
  f2 : Slot
  f3 : Slot
  f4 : Slot
  f5 : Slot
  f6 : Slot
  f7 : Slot
deriving DecidableEq, Repr

/-- The condition bits (10_state R54). -/
structure CondBits where
  C0 : Bool
  C1 : Bool
  C2 : Bool
  C3 : Bool
deriving DecidableEq, Repr

/-- The six exception flags of the status word (10_state R54); also the set of flags an operation sets. -/
structure ExcFlags where
  IE : Bool
  DE : Bool
  ZE : Bool
  OE : Bool
  UE : Bool
  PE : Bool
deriving DecidableEq, Repr

/-- The Floating-Point Stack (10_state R50 to R55). `SW` is a view of `top`, `cond` and `exc` (R54). -/
structure Fpu where
  fr   : Slots
  top  : BitVec 3
  cw   : Word
  cond : CondBits
  exc  : ExcFlags
deriving DecidableEq, Repr

/-- The Memory Segment Store (10_state R57): the segments as pairs of a selector and a size, rising by selector,
and the bytes that are not zero as cells, rising by key, where the key of `sel:off` is `sel * 65536 + off`.
A byte of an existing segment that no cell lists is 0x00, as a new segment is filled (10_state R74; LOG 7). -/
structure Memory where
  segs  : List (Nat × Nat)
  cells : List Host.Cell
deriving DecidableEq, Repr

/-- The parameters of 00_scope R12 that are plain values. They are arguments of the step, not state (00_scope R8);
they stand here because `step` takes nothing but a state, and nothing the machine does changes them (LOG 3). -/
structure Params where
  ringPolicy : RingPolicy
  hostFarSelectors : List Word
  resetSs : Word
  resetSp : Word
deriving DecidableEq, Repr

/-- The state of one core instance (10_state), and the parameters it runs under. -/
structure State where
  gpr    : Gpr
  sreg   : SegRegs
  ip     : Word
  flags  : Flags
  halted : Bool
  fpu    : Fpu
  mem    : Memory
  params : Params
deriving DecidableEq, Repr

/-- The faults of 60_exceptions R460. A fault carries no state: what stands after it is the state before the step
(60_exceptions R462). Each is the machine's own, so stopping on it is safe. -/
inductive Fault where
  /-- Raised by fetch, by a data access, by a push or a pop: the selector and offset of the first byte that failed
  (60_exceptions R460). Safe: the spec's own fault. -/
  | addressing (sel off : Word)
  /-- Raised by decoding only: `CS` and the `IP` of the first byte of the instruction (60_exceptions R460).
  Safe: the spec's own fault. -/
  | invalidOpcode (cs ip : Word)
  /-- Raised by an x87 instruction under `FPU_RING_POLICY = fault` only (47_x87_instructions R394).
  Safe: the spec's own fault. -/
  | fpuStack
deriving DecidableEq, Repr

/-- Reasons to refuse an instruction. -/
inductive Refusal where
  /-- An instruction that has no meaning yet, by its mnemonic; no arm answers it now. Safe: the machine stops. -/
  | notModelled (mnemonic : String)
deriving DecidableEq, Repr

/-- The slot value at reset: `+0.0`, empty (10_state R60). -/
def Slot.reset : Slot := { val := 0, occupied := false }

/-- `Reset()` but for the store and the parameters: every register of 10_state R60. -/
def State.resetWith (m : Memory) (p : Params) : State where
  gpr := { ax := 0, cx := 0, dx := 0, bx := 0, sp := p.resetSp, bp := 0, si := 0, di := 0 }
  sreg := { es := 0, cs := 0, ss := p.resetSs, ds := 0 }
  ip := 0
  flags := { CF := false, PF := false, AF := false, ZF := false, SF := false,
             TF := false, IF := false, DF := false, OF := false }
  halted := false
  fpu := { fr := { f0 := .reset, f1 := .reset, f2 := .reset, f3 := .reset,
                   f4 := .reset, f5 := .reset, f6 := .reset, f7 := .reset }
           top := 0
           cw := 0x037F
           cond := { C0 := false, C1 := false, C2 := false, C3 := false }
           exc := { IE := false, DE := false, ZE := false, OE := false, UE := false, PE := false } }
  mem := m
  params := p

/-- The values 00_scope R12 gives the parameters; `HOST_FAR_SELECTORS`, which it leaves to the host and allows to be
empty, is empty (LOG 3). -/
def Params.initial : Params where
  ringPolicy := .wrap
  hostFarSelectors := []
  resetSs := 0x0000
  resetSp := 0xFFFE

/-- A new core instance: the state of `Reset()` with no segment (70_reset_and_hazards R502; LOG 8). -/
def State.reset : State := State.resetWith { segs := [], cells := [] } Params.initial

/-- `Reset()` on a running instance: the Memory Segment Store is not touched (70_reset_and_hazards R500). -/
def State.hostReset (s : State) : State := State.resetWith s.mem s.params

end Sys2Proof.Machine
end

