-- ==== Sys2Proof/Machine/Flags.lean ====
section
/-! DEFINITION. Every flag computation: the `FLAGS` image (10_state R41), the result-derived flags (R42 to R45), and the
result and flags of each shift and rotate (42_logic R226 to R233). Arithmetic is on unbounded integers, narrowed at
the end (00_scope R13). -/

namespace Sys2Proof.Machine

/-! ## The FLAGS image -/

/-- Reading the image `FLAGS`: the nine flags in their places, bit 1 reads 1, the other bits read 0
(10_state R41). -/
def Flags.image (f : Flags) : Word :=
  0#4 ++ BitVec.ofBool f.OF ++ BitVec.ofBool f.DF ++ BitVec.ofBool f.IF ++ BitVec.ofBool f.TF
    ++ BitVec.ofBool f.SF ++ BitVec.ofBool f.ZF ++ 0#1 ++ BitVec.ofBool f.AF
    ++ 0#1 ++ BitVec.ofBool f.PF ++ 1#1 ++ BitVec.ofBool f.CF

/-- Writing the image: the nine named bits are copied, the others are ignored (10_state R41). -/
def Flags.ofImage (w : Word) : Flags where
  CF := w.getLsbD 0
  PF := w.getLsbD 2
  AF := w.getLsbD 4
  ZF := w.getLsbD 6
  SF := w.getLsbD 7
  TF := w.getLsbD 8
  IF := w.getLsbD 9
  DF := w.getLsbD 10
  OF := w.getLsbD 11

/-- `SAHF` writes the image's low byte: `SF ZF AF PF CF`, and no other flag (40_data_movement R180). -/
def Flags.withLowByte (f : Flags) (b : Byte) : Flags :=
  { f with SF := b.getLsbD 7, ZF := b.getLsbD 6, AF := b.getLsbD 4, PF := b.getLsbD 2, CF := b.getLsbD 0 }

/-- All six status flags written, the control flags kept. -/
def Flags.withStatus (f : Flags) (x : StatusFlags) : Flags :=
  { f with CF := x.CF, PF := x.PF, AF := x.AF, ZF := x.ZF, SF := x.SF, OF := x.OF }

/-- The status flags written but for `CF` (`INC`, `DEC`: 41_arithmetic R196, R197). -/
def Flags.withStatusKeepCF (f : Flags) (x : StatusFlags) : Flags :=
  { f with PF := x.PF, AF := x.AF, ZF := x.ZF, SF := x.SF, OF := x.OF }

/-- The status flags as they stand. -/
def Flags.status (f : Flags) : StatusFlags :=
  { CF := f.CF, PF := f.PF, AF := f.AF, ZF := f.ZF, SF := f.SF, OF := f.OF }

/-! ## Result-derived flags -/

variable {n : Nat}

/-- `ZF_of` (10_state R42). -/
def zfOf (res : BitVec n) : Bool := decide (res = 0)

/-- `SF_of` (10_state R42). -/
def sfOf (res : BitVec n) : Bool := res.msb

/-- `PF_of`: an even number of 1 bits in the low byte, at every width (10_state R42). -/
def pfOf (res : BitVec n) : Bool := (List.range 8).countP (fun k => res.getLsbD k) % 2 == 0

/-- `AddFlags(n, a, b, cin)` (10_state R43). -/
def addFlags (a b : BitVec n) (cin : Bool) : BitVec n × StatusFlags :=
  let full := a.toNat + b.toNat + cin.toNat
  let res := BitVec.ofNat n full
  (res, { CF := decide (2 ^ n ≤ full)
          PF := pfOf res
          AF := (a ^^^ b ^^^ res).getLsbD 4
          ZF := zfOf res
          SF := sfOf res
          OF := ((a ^^^ res) &&& (b ^^^ res)).msb })

/-- `SubFlags(n, a, b, bin)` (10_state R44). -/
def subFlags (a b : BitVec n) (bin : Bool) : BitVec n × StatusFlags :=
  let res := BitVec.ofInt n ((a.toNat : Int) - b.toNat - bin.toNat)
  (res, { CF := decide (a.toNat < b.toNat + bin.toNat)
          PF := pfOf res
          AF := (a ^^^ b ^^^ res).getLsbD 4
          ZF := zfOf res
          SF := sfOf res
          OF := ((a ^^^ b) &&& (a ^^^ res)).msb })

/-- `UF` applied to two bit-vector operands of the declared width (10_state R47). -/
def ufOf (m : UfMnemonic) (a b : BitVec n) : StatusFlags := Config.UF m n a.toNat b.toNat false

/-- `LogicFlags(n, res)` (10_state R45), with `AF` from `UF` of the operands (R47). -/
def logicFlags (m : UfMnemonic) (a b res : BitVec n) : BitVec n × StatusFlags :=
  (res, { CF := false
          PF := pfOf res
          AF := (ufOf m a b).AF
          ZF := zfOf res
          SF := sfOf res
          OF := false })

/-- The flags of a multiply: `CF` and `OF` say whether the high half is needed, the rest are family-undefined
(41_arithmetic R199 to R201). -/
def mulFlags (high : Bool) (uf : StatusFlags) : StatusFlags := { uf with CF := high, OF := high }

/-! ## The two-operand operations -/

/-- The operations of the nine-form instructions and `TEST` (41_arithmetic R190, 42_logic R220, R225). -/
inductive AluOp where
  | add | adc | sub | sbb | cmp | and | or | xor | test
deriving DecidableEq, Repr

/-- The result and the six status flags, from both operands and the carry (41_arithmetic R191 to R195,
42_logic R221 to R225). -/
def AluOp.eval (op : AluOp) (a b : BitVec n) (c : Bool) : BitVec n × StatusFlags :=
  match op with
  | .add => addFlags a b false
  | .adc => addFlags a b c
  | .sub => subFlags a b false
  | .sbb => subFlags a b c
  | .cmp => subFlags a b false
  | .and => logicFlags .AND a b (a &&& b)
  | .or => logicFlags .OR a b (a ||| b)
  | .xor => logicFlags .XOR a b (a ^^^ b)
  | .test => logicFlags .TEST a b (a &&& b)

/-- `CMP` and `TEST` discard the result; the others write it (41_arithmetic R195, 42_logic R225). -/
def AluOp.writes : AluOp → Bool
  | .cmp | .test => false
  | .add | .adc | .sub | .sbb | .and | .or | .xor => true

/-! ## Shifts and rotates -/

/-- The seven instructions of 42_logic R226. -/
inductive ShiftOp where
  | rol | ror | rcl | rcr | shl | shr | sar
deriving DecidableEq, Repr

/-- Left rotation by `k` within `n` bits, for `k < n`. -/
def rotl (v : BitVec n) (k : Nat) : BitVec n := if k = 0 then v else (v <<< k) ||| (v >>> (n - k))

/-- Right rotation by `k` within `n` bits, for `k < n`. -/
def rotr (v : BitVec n) (k : Nat) : BitVec n := if k = 0 then v else (v >>> k) ||| (v <<< (n - k))

/-- The masked count (42_logic R226). -/
def maskedCount (raw : Byte) : Nat := (raw &&& 0x1F).toNat

/-- `UF` of a shift or rotate: `a` is the operand, `b` the masked count, the carry-in is the old `CF` for `RCL` and
`RCR` and 0 otherwise (42_logic R226). -/
def shiftUf (m : UfMnemonic) (a : BitVec n) (c : Nat) (cin : Bool) : StatusFlags := Config.UF m n a.toNat c cin

/-- The flags of a shift with a non-zero count: `ZF SF PF` from the result, `AF` family-undefined
(42_logic R226). -/
def shiftFlags (f : Flags) (uf : StatusFlags) (res : BitVec n) (cf ovf : Bool) : Flags :=
  f.withStatus { CF := cf, PF := pfOf res, AF := uf.AF, ZF := zfOf res, SF := sfOf res, OF := ovf }

/-- The flags of a rotate with a non-zero count: `CF` and `OF` only (42_logic R226). -/
def rotateFlags (f : Flags) (cf ovf : Bool) : Flags := { f with CF := cf, OF := ovf }

/-- `SHL` by `c ≥ 1` (42_logic R227). -/
def shlBy (a : BitVec n) (c : Nat) (f : Flags) : BitVec n × Flags :=
  let uf := shiftUf .SHL a c false
  let res := BitVec.ofNat n (a.toNat * 2 ^ c)
  let cf := if c < n then a.getLsbD (n - c) else uf.CF
  (res, shiftFlags f uf res cf (if c = 1 then xor res.msb cf else uf.OF))

/-- `SHR` by `c ≥ 1` (42_logic R228). -/
def shrBy (a : BitVec n) (c : Nat) (f : Flags) : BitVec n × Flags :=
  let uf := shiftUf .SHR a c false
  let res := BitVec.ofNat n (a.toNat / 2 ^ c)
  let cf := if c < n then a.getLsbD (c - 1) else uf.CF
  (res, shiftFlags f uf res cf (if c = 1 then a.msb else uf.OF))

/-- `SAR` by `c ≥ 1` (42_logic R229): rounds toward minus infinity. -/
def sarBy (a : BitVec n) (c : Nat) (f : Flags) : BitVec n × Flags :=
  let uf := shiftUf .SAR a c false
  let res := BitVec.ofInt n (a.toInt.fdiv (2 ^ c))
  let cf := if c ≤ n - 1 then a.getLsbD (c - 1) else a.msb
  (res, shiftFlags f uf res cf (if c = 1 then false else uf.OF))

/-- `ROL` by `c ≥ 1` (42_logic R230). -/
def rolBy (a : BitVec n) (c : Nat) (f : Flags) : BitVec n × Flags :=
  let res := rotl a (c % n)
  let cf := res.getLsbD 0
  (res, rotateFlags f cf (if c = 1 then xor res.msb cf else (shiftUf .ROL a c false).OF))

/-- `ROR` by `c ≥ 1` (42_logic R231). -/
def rorBy (a : BitVec n) (c : Nat) (f : Flags) : BitVec n × Flags :=
  let res := rotr a (c % n)
  (res, rotateFlags f res.msb (if c = 1 then xor res.msb (res.getLsbD (n - 2)) else (shiftUf .ROR a c false).OF))

/-- `RCL` by `c ≥ 1`: an `n+1`-bit left rotation of `CF ++ dst` (42_logic R232). -/
def rclBy (a : BitVec n) (c : Nat) (f : Flags) : BitVec n × Flags :=
  let v := rotl (BitVec.cons f.CF a) (c % (n + 1))
  let res := v.setWidth n
  let cf := v.msb
  (res, rotateFlags f cf (if c = 1 then xor res.msb cf else (shiftUf .RCL a c f.CF).OF))

/-- `RCR` by `c ≥ 1`: an `n+1`-bit right rotation of `CF ++ dst` (42_logic R233). -/
def rcrBy (a : BitVec n) (c : Nat) (f : Flags) : BitVec n × Flags :=
  let v := rotr (BitVec.cons f.CF a) (c % (n + 1))
  let res := v.setWidth n
  (res, rotateFlags f v.msb (if c = 1 then xor res.msb (res.getLsbD (n - 2)) else (shiftUf .RCR a c f.CF).OF))

/-- The result and flags of a shift or rotate by a masked count `c ≥ 1` (42_logic R227 to R233). -/
def ShiftOp.eval (op : ShiftOp) (a : BitVec n) (c : Nat) (f : Flags) : BitVec n × Flags :=
  match op with
  | .rol => rolBy a c f
  | .ror => rorBy a c f
  | .rcl => rclBy a c f
  | .rcr => rcrBy a c f
  | .shl => shlBy a c f
  | .shr => shrBy a c f
  | .sar => sarBy a c f

/-! ## Conditions -/

/-- The sixteen conditions of `Jcc`, by the number in the opcode's low four bits (43_control_transfer R255). -/
inductive Cond where
  | o | no | b | nb | z | nz | be | nbe | s | ns | p | np | l | nl | le | nle
deriving DecidableEq, Repr

/-- Whether a condition holds (43_control_transfer R255). -/
def Cond.holds (c : Cond) (f : Flags) : Bool :=
  match c with
  | .o => f.OF
  | .no => !f.OF
  | .b => f.CF
  | .nb => !f.CF
  | .z => f.ZF
  | .nz => !f.ZF
  | .be => f.CF || f.ZF
  | .nbe => !f.CF && !f.ZF
  | .s => f.SF
  | .ns => !f.SF
  | .p => f.PF
  | .np => !f.PF
  | .l => f.SF != f.OF
  | .nl => f.SF == f.OF
  | .le => f.ZF || f.SF != f.OF
  | .nle => !f.ZF && f.SF == f.OF

end Sys2Proof.Machine
end

