-- ==== Sys2Proof/Machine/FpuStack.lean ====
section
/-! DEFINITION. The register stack of the x87: slots by index, `TOP`, tags, push and pop, the status word
(10_state R50 to R54, 47_x87_instructions R391, R395). -/

namespace Sys2Proof.Machine

/-- `FR[k]` (10_state R50). -/
def Slots.get (f : Slots) (k : BitVec 3) : Slot :=
  match k.toNat with
  | 0 => f.f0 | 1 => f.f1 | 2 => f.f2 | 3 => f.f3 | 4 => f.f4 | 5 => f.f5 | 6 => f.f6 | _ => f.f7

/-- `FR[k] <- x`. -/
def Slots.set (f : Slots) (k : BitVec 3) (x : Slot) : Slots :=
  match k.toNat with
  | 0 => { f with f0 := x }
  | 1 => { f with f1 := x }
  | 2 => { f with f2 := x }
  | 3 => { f with f3 := x }
  | 4 => { f with f4 := x }
  | 5 => { f with f5 := x }
  | 6 => { f with f6 := x }
  | _ => { f with f7 := x }

/-- The physical slot of `ST(i)`: `(TOP + i) mod 8` (10_state R51). -/
def Fpu.phys (u : Fpu) (i : BitVec 3) : BitVec 3 := u.top + i

/-- The value of `ST(i)`. -/
def Fpu.st (u : Fpu) (i : BitVec 3) : F80 := (u.fr.get (u.phys i)).val

/-- The tag of `ST(i)`. -/
def Fpu.occupied (u : Fpu) (i : BitVec 3) : Bool := (u.fr.get (u.phys i)).occupied

/-- `ST(i) <- v`: the value, and the tag becomes occupied (10_state R52). -/
def Fpu.setSt (u : Fpu) (i : BitVec 3) (v : F80) : Fpu :=
  { u with fr := u.fr.set (u.phys i) { val := v, occupied := true } }

/-- A tag written, the value kept. -/
def Slots.setTag (f : Slots) (k : BitVec 3) (t : Bool) : Slots := f.set k { f.get k with occupied := t }

/-- `FPush(v)` (47_x87_instructions R391). -/
def Fpu.push (u : Fpu) (v : F80) : Fpu :=
  { u with top := u.top - 1, fr := u.fr.set (u.top - 1) { val := v, occupied := true } }

/-- `FPop()` (47_x87_instructions R391): the slot keeps its value, its tag becomes empty. -/
def Fpu.pop (u : Fpu) : Fpu :=
  { u with top := u.top + 1, fr := u.fr.setTag u.top false }

/-- No exception flag. -/
def ExcFlags.none : ExcFlags := { IE := false, DE := false, ZE := false, OE := false, UE := false, PE := false }

/-- Flags set, none cleared (46_x87_numerics R360). -/
def ExcFlags.or (x y : ExcFlags) : ExcFlags where
  IE := x.IE || y.IE
  DE := x.DE || y.DE
  ZE := x.ZE || y.ZE
  OE := x.OE || y.OE
  UE := x.UE || y.UE
  PE := x.PE || y.PE

/-- The sticky flags after an operation that sets `x` (46_x87_numerics R360). -/
def Fpu.raise (u : Fpu) (x : ExcFlags) : Fpu := { u with exc := u.exc.or x }

/-- All eight tags empty, the values kept (47_x87_instructions R450). -/
def Slots.emptyAll (f : Slots) : Slots where
  f0 := { f.f0 with occupied := false }
  f1 := { f.f1 with occupied := false }
  f2 := { f.f2 with occupied := false }
  f3 := { f.f3 with occupied := false }
  f4 := { f.f4 with occupied := false }
  f5 := { f.f5 with occupied := false }
  f6 := { f.f6 with occupied := false }
  f7 := { f.f7 with occupied := false }

/-- The status word, an image of `TOP`, the condition bits and the exception flags; bits 6, 7 and 15 read 0
(10_state R54). -/
def Fpu.statusWord (u : Fpu) : Word :=
  0#1 ++ BitVec.ofBool u.cond.C3 ++ u.top ++ BitVec.ofBool u.cond.C2 ++ BitVec.ofBool u.cond.C1
    ++ BitVec.ofBool u.cond.C0 ++ 0#2 ++ BitVec.ofBool u.exc.PE ++ BitVec.ofBool u.exc.UE
    ++ BitVec.ofBool u.exc.OE ++ BitVec.ofBool u.exc.ZE ++ BitVec.ofBool u.exc.DE ++ BitVec.ofBool u.exc.IE

/-- The rounding control of the control word, bits 11:10 (10_state R53). -/
def Fpu.rc (u : Fpu) : BitVec 2 := u.cw.extractLsb' 10 2

end Sys2Proof.Machine
end

