-- ==== Sys2Proof/Machine/HostConfig.lean ====
section
/-! DEFINITION. The host interface as data (10_state R72 to R75): its mutators, its accessors, and what a call answers;
and the two host handlers of 00_scope R12 as uninterpreted functions (60_exceptions R466). What a mutator does and
answers is `HostAction.call`, what an accessor answers is `HostQuery.answer`, both in Machine/Ops.lean. -/

namespace Sys2Proof.Machine

/-- The nine flags by name (10_state R40). -/
inductive FlagName where
  | CF | PF | AF | ZF | SF | TF | IF | DF | OF
deriving DecidableEq, Repr

/-- The mutators of the host interface, all of them but `Reset` and `Tick` (10_state R72 to R75).
A handler "has the powers of the host mutators and no others", and `halted` is not among them (60_exceptions R466). -/
inductive HostAction where
  /-- `Push(value)`, byte width (10_state R72, 20_memory R102). -/
  | push8 (v : Byte)
  /-- `Push(value)`, word width (10_state R72, 20_memory R100). -/
  | push16 (v : Word)
  /-- `Pop()`, byte width (20_memory R103). -/
  | pop8
  /-- `Pop()`, word width (20_memory R101). -/
  | pop16
  /-- The register mutators (10_state R73). -/
  | setR16 (r : R16) (v : Word)
  | setR8 (r : R8) (v : Byte)
  | setSReg (r : SReg) (v : Word)
  | setIp (v : Word)
  /-- A single flag, and the whole image with its reserved bits ignored (10_state R73). -/
  | setFlag (f : FlagName) (v : Bool)
  | setFlags (image : Word)
  /-- `AddSegment(selector, size)` (10_state R74). -/
  | addSegment (sel : Word) (size : Nat)
  /-- Raw memory writes (10_state R74). -/
  | writeByte (sel off : Word) (v : Byte)
  | writeWord (sel off : Word) (v : Word)
  /-- `Load(i, value)` for any natural `i` (10_state R75). -/
  | fpLoad (i : Nat) (v : F80)
  /-- `TOP`, a tag by physical slot, `CW`, the condition bits, the exception flags (10_state R75). -/
  | setTop (v : BitVec 3)
  | setTag (k : BitVec 3) (occupied : Bool)
  | setCw (v : Word)
  | setCond (v : CondBits)
  | setExc (v : ExcFlags)
deriving DecidableEq, Repr

/-- The accessors of the host interface: each answers a value and changes nothing (10_state R73 to R75). -/
inductive HostQuery where
  /-- The register accessors (10_state R73). -/
  | getR16 (r : R16)
  | getR8 (r : R8)
  | getSReg (r : SReg)
  | getIp
  /-- A single flag, and the whole image (10_state R73). -/
  | getFlag (f : FlagName)
  | getFlags
  /-- Raw memory reads (10_state R74). -/
  | readByte (sel off : Word)
  | readWord (sel off : Word)
  /-- `Store(i)` for any natural `i` (10_state R75). -/
  | fpStore (i : Nat)
  /-- `TOP`, a tag by physical slot, `CW`, the condition bits, the exception flags (10_state R75). -/
  | getTop
  | getTag (k : BitVec 3)
  | getCw
  | getCond
  | getExc
deriving DecidableEq, Repr

/-- A segment as a value: its size, and its bytes from offset 0 on (10_state R57). -/
structure Segment where
  size : Nat
  bytes : List Byte
deriving DecidableEq, Repr

/-- What a host call that succeeds answers: nothing, or the value its rule names (10_state R72 to R75). -/
inductive HostReply where
  | done
  | bit (v : Bool)
  | byte (v : Byte)
  | word (v : Word)
  | segment (g : Segment)
  | datum (v : F80)
  | top (v : BitVec 3)
  | cond (v : CondBits)
  | exc (v : ExcFlags)
deriving DecidableEq, Repr

/-- What the host is told where a call does not succeed; the state is unchanged. -/
inductive HostError where
  /-- The call raised a fault, which is reported to the host (10_state R72, R74). -/
  | fault (f : Fault)
  /-- `AddSegment` with its precondition broken (10_state R74). -/
  | segmentRefused
deriving DecidableEq, Repr

/-- `HostInterrupt` of 00_scope R12: what the host's handler does for a vector on a state, as the moves it makes.
It has no body: it is the host's (60_exceptions R466; LOG 5). -/
opaque Config.hostInterrupt : Byte → State → List HostAction

/-- `HostFarCall` of 00_scope R12: likewise, for a far call to `sel:off` (43_control_transfer R266; LOG 5). -/
opaque Config.hostFarCall : Word → Word → State → List HostAction

end Sys2Proof.Machine
end

