-- ==== Sys2Proof/Machine/Ops.lean ====
section
/-! DEFINITION. The named operations over registers and memory (10_state R30 to R33, 20_memory R80 to R105), and the
hand-off to the host, which is all this core has of taking an exception (60_exceptions R466 to R472). -/

namespace Sys2Proof.Machine

/-! ## Registers -/

/-- `r16[i]` (00_scope R14). -/
def Gpr.get (g : Gpr) : R16 → Word
  | .ax => g.ax | .cx => g.cx | .dx => g.dx | .bx => g.bx
  | .sp => g.sp | .bp => g.bp | .si => g.si | .di => g.di

/-- `r16[i] <- v`. -/
def Gpr.set (g : Gpr) (r : R16) (v : Word) : Gpr :=
  match r with
  | .ax => { g with ax := v } | .cx => { g with cx := v } | .dx => { g with dx := v } | .bx => { g with bx := v }
  | .sp => { g with sp := v } | .bp => { g with bp := v } | .si => { g with si := v } | .di => { g with di := v }

def State.r16 (s : State) (r : R16) : Word := s.gpr.get r

def State.setR16 (s : State) (r : R16) (v : Word) : State := { s with gpr := s.gpr.set r v }

/-- The word register a byte register is half of (10_state R32). -/
def parentOf : R8 → R16
  | .al | .ah => .ax
  | .cl | .ch => .cx
  | .dl | .dh => .dx
  | .bl | .bh => .bx

/-- Whether a byte register is the high half (10_state R32). -/
def isHigh : R8 → Bool
  | .al | .cl | .dl | .bl => false
  | .ah | .ch | .dh | .bh => true

/-- The low byte of a word. -/
def lowByte (w : Word) : Byte := w.extractLsb' 0 8

/-- The high byte of a word. -/
def highByte (w : Word) : Byte := w.extractLsb' 8 8

/-- `r8[i]` (10_state R32). -/
def State.r8 (s : State) (r : R8) : Byte :=
  if isHigh r then highByte (s.r16 (parentOf r)) else lowByte (s.r16 (parentOf r))

/-- `r8[i] <- v`, the other half kept (10_state R32). -/
def State.setR8 (s : State) (r : R8) (v : Byte) : State :=
  let w := s.r16 (parentOf r)
  s.setR16 (parentOf r) (if isHigh r then v ++ lowByte w else highByte w ++ v)

/-- `sreg[i]`. -/
def SegRegs.get (g : SegRegs) : SReg → Word
  | .es => g.es | .cs => g.cs | .ss => g.ss | .ds => g.ds

/-- `sreg[i] <- v`: nothing is checked (10_state R33). -/
def SegRegs.set (g : SegRegs) (r : SReg) (v : Word) : SegRegs :=
  match r with
  | .es => { g with es := v } | .cs => { g with cs := v } | .ss => { g with ss := v } | .ds => { g with ds := v }

def State.seg (s : State) (r : SReg) : Word := s.sreg.get r

def State.setSeg (s : State) (r : SReg) (v : Word) : State := { s with sreg := s.sreg.set r v }

def State.setIp (s : State) (v : Word) : State := { s with ip := v }

/-- `CS:IP <- sel:off`. -/
def State.setCsIp (s : State) (sel off : Word) : State := { s with sreg := { s.sreg with cs := sel }, ip := off }

def State.setFlags (s : State) (f : Flags) : State := { s with flags := f }

/-- All six status flags written (00_scope R18: "as its last step"). -/
def State.setStatus (s : State) (x : StatusFlags) : State := s.setFlags (s.flags.withStatus x)

def State.setFpu (s : State) (u : Fpu) : State := { s with fpu := u }

/-! ## The Memory Segment Store -/

/-- The key of `sel:off` in the list of cells. Two selectors never share a byte (20_memory R84). -/
def cellKey (sel off : Word) : Nat := sel.toNat * 65536 + off.toNat

/-- The size of a segment, if it exists. -/
def lookupSeg : List (Nat × Nat) → Nat → Option Nat
  | [], _ => none
  | (k, size) :: rest, sel => if k = sel then some size else lookupSeg rest sel

/-- A segment added in the place that keeps the selectors rising. -/
def insertSeg : List (Nat × Nat) → Nat → Nat → List (Nat × Nat)
  | [], sel, size => [(sel, size)]
  | (k, x) :: rest, sel, size =>
    if sel < k then (sel, size) :: (k, x) :: rest
    else if sel = k then (sel, size) :: rest
    else (k, x) :: insertSeg rest sel size

/-- The byte a cell lists, 0x00 where none does (10_state R74; LOG 7). -/
def lookupCell : List Host.Cell → Nat → Byte
  | [], _ => 0
  | (k, v) :: rest, key => if k = key then v else lookupCell rest key

/-- The cells with one byte written: keys stay rising, and writing 0x00 removes the cell. -/
def storeCell : List Host.Cell → Nat → Byte → List Host.Cell
  | [], key, v => if v = 0 then [] else [(key, v)]
  | (k, x) :: rest, key, v =>
    if key < k then (if v = 0 then (k, x) :: rest else (key, v) :: (k, x) :: rest)
    else if key = k then (if v = 0 then rest else (key, v) :: rest)
    else (k, x) :: storeCell rest key v

/-- `store[sel]`'s size (20_memory R85). -/
def Memory.segSize (m : Memory) (sel : Word) : Option Nat := lookupSeg m.segs sel.toNat

/-- Whether `Check(sel, off)` passes (20_memory R85). -/
def Memory.inBounds (m : Memory) (sel off : Word) : Bool :=
  match m.segSize sel with
  | none => false
  | some size => decide (off.toNat < size)

/-- The byte at `sel:off`, without the check. -/
def Memory.peek (m : Memory) (sel off : Word) : Byte := lookupCell m.cells (cellKey sel off)

/-- The byte at `sel:off` written, without the check. -/
def Memory.poke (m : Memory) (sel off : Word) (v : Byte) : Memory :=
  { m with cells := storeCell m.cells (cellKey sel off) v }

/-- The offset of the first of `n` bytes from `off` on that `Check` refuses; offsets wrap at 16 bits
(20_memory R83, R85, R90). -/
def Memory.firstBad (m : Memory) (sel off : Word) : Nat → Option Word
  | 0 => none
  | n + 1 => if m.inBounds sel off then m.firstBad sel (off + 1) n else some off

/-- The `n` bytes from `sel:off` on as a number, little-endian (20_memory R82, R88). -/
def Memory.peekN (m : Memory) (sel off : Word) : Nat → Nat
  | 0 => 0
  | n + 1 => (m.peek sel off).toNat + 256 * m.peekN sel (off + 1) n

/-- The `n` low bytes of a number written from `sel:off` on, little-endian (20_memory R82, R89). -/
def Memory.pokeN (m : Memory) (sel off : Word) : Nat → Nat → Memory
  | 0, _ => m
  | n + 1, v => (m.poke sel off (BitVec.ofNat 8 v)).pokeN sel (off + 1) n (v / 256)

/-- The keys strictly rise. -/
def rising : List Nat → Bool
  | [] => true
  | [_] => true
  | a :: b :: rest => decide (a < b) && rising (b :: rest)

/-- A cell is a byte of an existing segment, and not what an unlisted byte reads as. -/
def cellOk (segs : List (Nat × Nat)) (c : Host.Cell) : Bool :=
  c.2 != 0 && match lookupSeg segs (c.1 / 65536) with
    | none => false
    | some size => decide (c.1 % 65536 < size)

/-- The canonical form of the store (10_state R57): selectors strictly rise and are 16 bits wide, sizes are 1 to 65536,
cell keys strictly rise, and every cell is a non-zero byte of an existing segment. -/
def Memory.wf (m : Memory) : Bool :=
  rising (m.segs.map Prod.fst)
    && m.segs.all (fun x => decide (x.1 < 65536) && decide (1 ≤ x.2) && decide (x.2 ≤ 65536))
    && rising (m.cells.map Prod.fst)
    && m.cells.all (cellOk m.segs)

/-! ## The read and write primitives -/

/-- `MemRead(sel:off, n)` (20_memory R88): the first byte out of bounds faults. -/
def State.memRead (s : State) (sel off : Word) (n : Nat) : Except Fault Nat :=
  match s.mem.firstBad sel off n with
  | some bad => .error (.addressing sel bad)
  | none => .ok (s.mem.peekN sel off n)

/-- `MemWrite(sel:off, n, v)` (20_memory R89): all bytes are checked before any is written. -/
def State.memWrite (s : State) (sel off : Word) (n : Nat) (v : Nat) : Except Fault State :=
  match s.mem.firstBad sel off n with
  | some bad => .error (.addressing sel bad)
  | none => .ok { s with mem := s.mem.pokeN sel off n v }

/-- A value of `8 * n` bits read (20_memory R88, R92). -/
def State.readBits (s : State) (sel off : Word) (n : Nat) : Except Fault (BitVec (8 * n)) :=
  (s.memRead sel off n).map (BitVec.ofNat (8 * n))

/-- `MemRead(sel:off, 1)`. -/
def State.read8 (s : State) (sel off : Word) : Except Fault Byte := s.readBits sel off 1

/-- `MemRead(sel:off, 2)`. -/
def State.read16 (s : State) (sel off : Word) : Except Fault Word := s.readBits sel off 2

/-- `MemWrite(sel:off, 1, v)`. -/
def State.write8 (s : State) (sel off : Word) (v : Byte) : Except Fault State := s.memWrite sel off 1 v.toNat

/-- `MemWrite(sel:off, 2, v)`. -/
def State.write16 (s : State) (sel off : Word) (v : Word) : Except Fault State := s.memWrite sel off 2 v.toNat

/-- A far pointer or a pair of bounds: two word reads, at `off` and at `off + 2` (20_memory R92). -/
def State.readPair (s : State) (sel off : Word) : Except Fault (Word × Word) := do
  let lo ← s.read16 sel off
  let hi ← s.read16 sel (off + 2)
  pure (lo, hi)

/-! ## The Stack Manager -/

/-- The push of `n` bytes (20_memory R100, R102). -/
def State.pushN (s : State) (n : Nat) (v : Nat) : Except Fault State :=
  if s.gpr.sp.toNat < n then .error (.addressing s.sreg.ss (s.gpr.sp - BitVec.ofNat 16 n))
  else (s.memWrite s.sreg.ss (s.gpr.sp - BitVec.ofNat 16 n) n v).map
    (fun t => t.setR16 .sp (s.gpr.sp - BitVec.ofNat 16 n))

/-- The pop of `n` bytes (20_memory R101, R103). -/
def State.popN (s : State) (n : Nat) : Except Fault (Nat × State) :=
  match s.mem.segSize s.sreg.ss with
  | none => .error (.addressing s.sreg.ss s.gpr.sp)
  | some size =>
    if size < s.gpr.sp.toNat + n then .error (.addressing s.sreg.ss s.gpr.sp)
    else (s.memRead s.sreg.ss s.gpr.sp n).map
      (fun v => (v, s.setR16 .sp (s.gpr.sp + BitVec.ofNat 16 n)))

/-- `Push16(v)` (20_memory R100). -/
def State.push16 (s : State) (v : Word) : Except Fault State := s.pushN 2 v.toNat

/-- `Pop16()` (20_memory R101). -/
def State.pop16 (s : State) : Except Fault (Word × State) :=
  (s.popN 2).map (fun x => (BitVec.ofNat 16 x.1, x.2))

/-- `Push8(v)` (20_memory R102): for the host only. -/
def State.push8 (s : State) (v : Byte) : Except Fault State := s.pushN 1 v.toNat

/-- `Pop8()` (20_memory R103): for the host only. -/
def State.pop8 (s : State) : Except Fault (Byte × State) :=
  (s.popN 1).map (fun x => (BitVec.ofNat 8 x.1, x.2))

/-! ## The host interface and the hand-off -/

/-- A flag by name (10_state R73). -/
def Flags.get (f : Flags) : FlagName → Bool
  | .CF => f.CF
  | .PF => f.PF
  | .AF => f.AF
  | .ZF => f.ZF
  | .SF => f.SF
  | .TF => f.TF
  | .IF => f.IF
  | .DF => f.DF
  | .OF => f.OF

/-- One flag written (10_state R73). -/
def Flags.set (f : Flags) (x : FlagName) (v : Bool) : Flags :=
  match x with
  | .CF => { f with CF := v }
  | .PF => { f with PF := v }
  | .AF => { f with AF := v }
  | .ZF => { f with ZF := v }
  | .SF => { f with SF := v }
  | .TF => { f with TF := v }
  | .IF => { f with IF := v }
  | .DF => { f with DF := v }
  | .OF => { f with OF := v }

/-- The segment that a selector names, as a value (10_state R57). -/
def Memory.segment (m : Memory) (sel : Word) : Option Segment :=
  (m.segSize sel).map (fun size => { size := size, bytes := (List.range size).map (fun k => m.peek sel (BitVec.ofNat 16 k)) })

/-- `AddSegment(selector, size) -> segment`: the new segment, every byte 0x00, and the store with it; where the precondition
fails the call is refused (10_state R74). -/
def Memory.addSegment (m : Memory) (sel : Word) (size : Nat) : Except HostError (Segment × Memory) :=
  if 1 ≤ size ∧ size ≤ 65536 ∧ m.segSize sel = none then
    .ok ({ size := size, bytes := List.replicate size 0 }, { m with segs := insertSeg m.segs sel.toNat size })
  else .error .segmentRefused

/-- A host call from what the operation behind it gives, its fault reported to the host (10_state R72, R74). -/
def reported {α : Type} (o : Except Fault α) : Except HostError α :=
  match o with
  | .ok a => .ok a
  | .error f => .error (.fault f)

/-- What a host mutator answers and the state it leaves, or what the host is told instead (10_state R72 to R75). -/
def HostAction.call (a : HostAction) (s : State) : Except HostError (HostReply × State) :=
  match a with
  | .push8 v => (reported (s.push8 v)).map (fun t => (.done, t))
  | .push16 v => (reported (s.push16 v)).map (fun t => (.done, t))
  | .pop8 => (reported s.pop8).map (fun x => (.byte x.1, x.2))
  | .pop16 => (reported s.pop16).map (fun x => (.word x.1, x.2))
  | .setR16 r v => .ok (.done, s.setR16 r v)
  | .setR8 r v => .ok (.done, s.setR8 r v)
  | .setSReg r v => .ok (.done, s.setSeg r v)
  | .setIp v => .ok (.done, s.setIp v)
  | .setFlag f v => .ok (.done, s.setFlags (s.flags.set f v))
  | .setFlags image => .ok (.done, s.setFlags (Flags.ofImage image))
  | .addSegment sel size => (s.mem.addSegment sel size).map (fun x => (.segment x.1, { s with mem := x.2 }))
  | .writeByte sel off v => (reported (s.write8 sel off v)).map (fun t => (.done, t))
  | .writeWord sel off v => (reported (s.write16 sel off v)).map (fun t => (.done, t))
  | .fpLoad i v => .ok (.done, s.setFpu (s.fpu.setSt (BitVec.ofNat 3 i) v))
  | .setTop v => .ok (.done, s.setFpu { s.fpu with top := v })
  | .setTag k t => .ok (.done, s.setFpu { s.fpu with fr := s.fpu.fr.setTag k t })
  | .setCw v => .ok (.done, s.setFpu { s.fpu with cw := v })
  | .setCond v => .ok (.done, s.setFpu { s.fpu with cond := v })
  | .setExc v => .ok (.done, s.setFpu { s.fpu with exc := v })

/-- The state after a host mutator: a call that is refused or that faults leaves it unchanged (10_state R72, R74). -/
def HostAction.apply (a : HostAction) (s : State) : State :=
  match a.call s with
  | .ok x => x.2
  | .error _ => s

/-- What a host accessor answers, or the fault it reports; it changes nothing (10_state R73 to R75). -/
def HostQuery.answer (q : HostQuery) (s : State) : Except HostError HostReply :=
  match q with
  | .getR16 r => .ok (.word (s.r16 r))
  | .getR8 r => .ok (.byte (s.r8 r))
  | .getSReg r => .ok (.word (s.seg r))
  | .getIp => .ok (.word s.ip)
  | .getFlag f => .ok (.bit (s.flags.get f))
  | .getFlags => .ok (.word s.flags.image)
  | .readByte sel off => (reported (s.read8 sel off)).map .byte
  | .readWord sel off => (reported (s.read16 sel off)).map .word
  | .fpStore i => .ok (.datum (s.fpu.st (BitVec.ofNat 3 i)))
  | .getTop => .ok (.top s.fpu.top)
  | .getTag k => .ok (.bit (s.fpu.fr.get k).occupied)
  | .getCw => .ok (.word s.fpu.cw)
  | .getCond => .ok (.cond s.fpu.cond)
  | .getExc => .ok (.exc s.fpu.exc)

/-- The hand-off: the state a handler returns replaces the core's (60_exceptions R466). The core saves nothing, pushes
nothing and reads no vector table (R472); there is no return from it, as there is no state of being in one (R469). -/
def State.handOff (s : State) (moves : List HostAction) : State := moves.foldl (fun t a => a.apply t) s

/-- `state <- HostInterrupt(vector, state)`, on a state whose `IP` is `next_ip` (60_exceptions R466, R468).
This is the one operation that every software interrupt, trap and divide error takes (60_exceptions R467). -/
def State.hostInterrupt (s : State) (vector : Byte) : State := s.handOff (Config.hostInterrupt vector s)

/-- `state <- HostFarCall(sel, off, state)` (43_control_transfer R266). -/
def State.hostFarCall (s : State) (sel off : Word) : State := s.handOff (Config.hostFarCall sel off s)

/-! ## How a meaning ends -/

/-- The outcome of a meaning: the next state or the fault it raised. No meaning refuses. -/
def finish : Except Fault State → Host.Outcome State Fault Refusal
  | .ok s => .next s
  | .error f => .fault f

end Sys2Proof.Machine
end

