-- ==== Sys2Proof/Machine/Operands.lean ====
section
/-! DEFINITION. Operands: the effective address (30_encoding R130, R131), register or memory locations, their reads and
writes, immediates, and the operand shapes that a family of instructions shares. A location is resolved once, from the
state at the start of the instruction, before any register is written (00_scope R18, 30_encoding R126). -/

namespace Sys2Proof.Machine

/-- The register sum of an effective address, wrapping at 16 bits (30_encoding R130). -/
def State.baseSum (s : State) : Base → Word
  | .bxsi => s.gpr.bx + s.gpr.si
  | .bxdi => s.gpr.bx + s.gpr.di
  | .bpsi => s.gpr.bp + s.gpr.si
  | .bpdi => s.gpr.bp + s.gpr.di
  | .si => s.gpr.si
  | .di => s.gpr.di
  | .bp => s.gpr.bp
  | .bx => s.gpr.bx

/-- `sext_16` of a byte: an immediate, a displacement or a relative jump (30_encoding R130, R135). -/
def sext16 (b : Byte) : Word := b.signExtend 16

/-- `ea_off` (30_encoding R130). -/
def State.eaOff (s : State) : Ea → Word
  | .plain b => s.baseSum b
  | .disp8 b d => s.baseSum b + sext16 d
  | .disp16 b d => s.baseSum b + d
  | .direct d => d

/-- `ea_off` of a memory operand. -/
def State.off (s : State) (m : Mem) : Word := s.eaOff m.ea

/-- `seg_sel` of a memory operand: the selector in its segment register (30_encoding R131). -/
def State.sel (s : State) (m : Mem) : Word := s.seg m.seg

/-- Where an operand is: a register, or an address. -/
inductive Loc (ρ : Type) where
  | reg (r : ρ)
  | mem (sel off : Word)
deriving DecidableEq, Repr

/-- The location of an `r/m` operand (30_encoding R129, R130). -/
def State.loc {ρ : Type} (s : State) : Rm ρ → Loc ρ
  | .reg r => .reg r
  | .mem m => .mem (s.sel m) (s.off m)

/-- `read(x)` of a byte operand (00_scope R18). -/
def State.get8 (s : State) : Loc R8 → Except Fault Byte
  | .reg r => .ok (s.r8 r)
  | .mem sel off => s.read8 sel off

/-- `write(x, v)` of a byte operand (00_scope R18). -/
def State.put8 (s : State) (l : Loc R8) (v : Byte) : Except Fault State :=
  match l with
  | .reg r => .ok (s.setR8 r v)
  | .mem sel off => s.write8 sel off v

/-- `read(x)` of a word operand. -/
def State.get16 (s : State) : Loc R16 → Except Fault Word
  | .reg r => .ok (s.r16 r)
  | .mem sel off => s.read16 sel off

/-- `write(x, v)` of a word operand. -/
def State.put16 (s : State) (l : Loc R16) (v : Word) : Except Fault State :=
  match l with
  | .reg r => .ok (s.setR16 r v)
  | .mem sel off => s.write16 sel off v

/-! ## Two-operand instructions (41_arithmetic R190, 42_logic R220) -/

/-- `op dst, v` on a byte: the destination is read, the result written unless the operation discards it, the six
status flags written last. -/
def State.alu8 (s : State) (op : AluOp) (l : Loc R8) (v : Byte) : Except Fault State := do
  let a ← s.get8 l
  let r := op.eval a v s.flags.CF
  let t ← if op.writes then s.put8 l r.1 else pure s
  pure (t.setStatus r.2)

/-- `op dst, v` on a word. -/
def State.alu16 (s : State) (op : AluOp) (l : Loc R16) (v : Word) : Except Fault State := do
  let a ← s.get16 l
  let r := op.eval a v s.flags.CF
  let t ← if op.writes then s.put16 l r.1 else pure s
  pure (t.setStatus r.2)

/-- `op r8, r/m8`: the source is read, then as above. -/
def State.aluFrom8 (s : State) (op : AluOp) (r : R8) (x : Rm8) : Except Fault State := do
  let v ← s.get8 (s.loc x)
  s.alu8 op (.reg r) v

/-- `op r16, r/m16`. -/
def State.aluFrom16 (s : State) (op : AluOp) (r : R16) (x : Rm16) : Except Fault State := do
  let v ← s.get16 (s.loc x)
  s.alu16 op (.reg r) v

/-! ## One-operand instructions -/

/-- A byte operand replaced by a function of it, the flags by a function of both. -/
def State.modify8 (s : State) (l : Loc R8) (f : Byte → Byte) (g : Byte → Flags) : Except Fault State := do
  let a ← s.get8 l
  let t ← s.put8 l (f a)
  pure (t.setFlags (g a))

/-- A word operand likewise. -/
def State.modify16 (s : State) (l : Loc R16) (f : Word → Word) (g : Word → Flags) : Except Fault State := do
  let a ← s.get16 l
  let t ← s.put16 l (f a)
  pure (t.setFlags (g a))

/-- A shift or rotate of a byte by a raw count: with masked count 0 the operand is read and nothing is written
(42_logic R226). -/
def State.shift8 (s : State) (op : ShiftOp) (d : Rm8) (raw : Byte) : Except Fault State := do
  let l := s.loc d
  let c := maskedCount raw
  let a ← s.get8 l
  if c = 0 then pure s else do
    let r := op.eval a c s.flags
    let t ← s.put8 l r.1
    pure (t.setFlags r.2)

/-- A shift or rotate of a word by a raw count. -/
def State.shift16 (s : State) (op : ShiftOp) (d : Rm16) (raw : Byte) : Except Fault State := do
  let l := s.loc d
  let c := maskedCount raw
  let a ← s.get16 l
  if c = 0 then pure s else do
    let r := op.eval a c s.flags
    let t ← s.put16 l r.1
    pure (t.setFlags r.2)

/-! ## Jumps -/

/-- A relative target, wrapping in the 16-bit offset space; `IP` holds `next_ip` (43_control_transfer R250; LOG 2). -/
def State.jumpRel (s : State) (rel : Word) : State := s.setIp (s.ip + rel)

/-- A jump taken or not. -/
def State.jumpIf (s : State) (taken : Bool) (rel : Byte) : State := if taken then s.jumpRel (sext16 rel) else s

end Sys2Proof.Machine
end

