-- ==== Sys2Proof/Machine/Arithmetic.lean ====
section
/-! DEFINITION. Integer arithmetic (41_arithmetic R190 to R205). -/

namespace Sys2Proof.Machine

/-- `INC` keeps `CF` (41_arithmetic R196). -/
def State.inc8 (s : State) (l : Loc R8) : Except Fault State :=
  s.modify8 l (fun a => (addFlags a 1 false).1) (fun a => s.flags.withStatusKeepCF (addFlags a 1 false).2)

def State.inc16 (s : State) (l : Loc R16) : Except Fault State :=
  s.modify16 l (fun a => (addFlags a 1 false).1) (fun a => s.flags.withStatusKeepCF (addFlags a 1 false).2)

/-- `DEC` keeps `CF` (41_arithmetic R197). -/
def State.dec8 (s : State) (l : Loc R8) : Except Fault State :=
  s.modify8 l (fun a => (subFlags a 1 false).1) (fun a => s.flags.withStatusKeepCF (subFlags a 1 false).2)

def State.dec16 (s : State) (l : Loc R16) : Except Fault State :=
  s.modify16 l (fun a => (subFlags a 1 false).1) (fun a => s.flags.withStatusKeepCF (subFlags a 1 false).2)

/-- `NEG` is `0 - a` (41_arithmetic R198). -/
def State.neg8 (s : State) (l : Loc R8) : Except Fault State :=
  s.modify8 l (fun a => (subFlags 0 a false).1) (fun a => s.flags.withStatus (subFlags 0 a false).2)

def State.neg16 (s : State) (l : Loc R16) : Except Fault State :=
  s.modify16 l (fun a => (subFlags 0 a false).1) (fun a => s.flags.withStatus (subFlags 0 a false).2)

/-- The double-width word result of a byte or word operation: `AX`, or `DX:AX` (41_arithmetic R199). -/
def State.setDxAx (s : State) (v : BitVec 32) : State :=
  (s.setR16 .ax (v.extractLsb' 0 16)).setR16 .dx (v.extractLsb' 16 16)

/-- `MUL r/m8` (41_arithmetic R199). -/
def State.mul8 (s : State) (l : Loc R8) : Except Fault State := do
  let b ← s.get8 l
  let a := s.r8 .al
  let p := a.toNat * b.toNat
  pure ((s.setR16 .ax (BitVec.ofNat 16 p)).setStatus (mulFlags (decide (2 ^ 8 ≤ p)) (ufOf .MUL a b)))

/-- `MUL r/m16` (41_arithmetic R199). -/
def State.mul16 (s : State) (l : Loc R16) : Except Fault State := do
  let b ← s.get16 l
  let a := s.r16 .ax
  let p := a.toNat * b.toNat
  pure ((s.setDxAx (BitVec.ofNat 32 p)).setStatus (mulFlags (decide (2 ^ 16 ≤ p)) (ufOf .MUL a b)))

/-- Whether a product is outside the signed range of `n` bits (41_arithmetic R200). -/
def signedOver (n : Nat) (p : Int) : Bool := decide (p < -(2 ^ (n - 1)) ∨ 2 ^ (n - 1) - 1 < p)

/-- `IMUL r/m8` (41_arithmetic R200); `UF`'s `a` and `b` are `AL` and the source, as R199 says of `MUL` (DEDUCED, LOG 4). -/
def State.imul8 (s : State) (l : Loc R8) : Except Fault State := do
  let b ← s.get8 l
  let a := s.r8 .al
  let p := a.toInt * b.toInt
  pure ((s.setR16 .ax (BitVec.ofInt 16 p)).setStatus (mulFlags (signedOver 8 p) (ufOf .IMUL a b)))

/-- `IMUL r/m16` (41_arithmetic R200); `UF`'s `a` and `b` are `AX` and the source, as R199 says of `MUL` (DEDUCED, LOG 4). -/
def State.imul16 (s : State) (l : Loc R16) : Except Fault State := do
  let b ← s.get16 l
  let a := s.r16 .ax
  let p := a.toInt * b.toInt
  pure ((s.setDxAx (BitVec.ofInt 32 p)).setStatus (mulFlags (signedOver 16 p) (ufOf .IMUL a b)))

/-- `IMUL r16, r/m16, imm`: the low word of the product (41_arithmetic R201). The rule applies `UF` to `a` and `b` and does not
say what they are: here `r/m16` and the immediate, sign-extended where it is a byte (DESIGN CHOICE, LOG 4). -/
def State.imul3 (s : State) (r : R16) (l : Loc R16) (imm : Word) : Except Fault State := do
  let a ← s.get16 l
  let p := a.toInt * imm.toInt
  pure ((s.setR16 r (BitVec.ofInt 16 p)).setStatus (mulFlags (signedOver 16 p) (ufOf .IMUL a imm)))

/-- `DivideError()`: nothing is written, the host's vector 0 is called (41_arithmetic R205). -/
def State.divideError (s : State) : State := s.hostInterrupt 0

/-- `DIV r/m8` (41_arithmetic R202). -/
def State.div8 (s : State) (l : Loc R8) : Except Fault State := do
  let d ← s.get8 l
  let x := s.gpr.ax.toNat
  let q := x / d.toNat
  if d = 0 ∨ 2 ^ 8 - 1 < q then pure s.divideError
  else pure (((s.setR8 .al (BitVec.ofNat 8 q)).setR8 .ah (BitVec.ofNat 8 (x % d.toNat))).setStatus
    (Config.UF .DIV 8 x d.toNat false))

/-- `DIV r/m16` (41_arithmetic R202). -/
def State.div16 (s : State) (l : Loc R16) : Except Fault State := do
  let d ← s.get16 l
  let x := (s.gpr.dx ++ s.gpr.ax).toNat
  let q := x / d.toNat
  if d = 0 ∨ 2 ^ 16 - 1 < q then pure s.divideError
  else pure (((s.setR16 .ax (BitVec.ofNat 16 q)).setR16 .dx (BitVec.ofNat 16 (x % d.toNat))).setStatus
    (Config.UF .DIV 16 x d.toNat false))

/-- `IDIV r/m8`: the quotient rounds toward zero, the remainder has the sign of the dividend (41_arithmetic R203). -/
def State.idiv8 (s : State) (l : Loc R8) : Except Fault State := do
  let d ← s.get8 l
  let x := s.gpr.ax.toInt
  let q := x.tdiv d.toInt
  if d = 0 ∨ signedOver 8 q then pure s.divideError
  else pure (((s.setR8 .al (BitVec.ofInt 8 q)).setR8 .ah (BitVec.ofInt 8 (x - q * d.toInt))).setStatus
    (Config.UF .IDIV 8 x d.toInt false))

/-- `IDIV r/m16` (41_arithmetic R203). -/
def State.idiv16 (s : State) (l : Loc R16) : Except Fault State := do
  let d ← s.get16 l
  let x := (s.gpr.dx ++ s.gpr.ax).toInt
  let q := x.tdiv d.toInt
  if d = 0 ∨ signedOver 16 q then pure s.divideError
  else pure (((s.setR16 .ax (BitVec.ofInt 16 q)).setR16 .dx (BitVec.ofInt 16 (x - q * d.toInt))).setStatus
    (Config.UF .IDIV 16 x d.toInt false))

/-! ## One meaning for each row of the opcode table -/

/-- `ADD r/m8, r8`, 00 (41_arithmetic R191). -/
def execAddRm8R8 (d : Rm8) (r : R8) (s : State) : Host.Outcome State Fault Refusal :=
  finish (s.alu8 .add (s.loc d) (s.r8 r))

/-- `ADD r/m16, r16`, 01 (41_arithmetic R191). -/
def execAddRm16R16 (d : Rm16) (r : R16) (s : State) : Host.Outcome State Fault Refusal :=
  finish (s.alu16 .add (s.loc d) (s.r16 r))

/-- `ADD r8, r/m8`, 02 (41_arithmetic R191). -/
def execAddR8Rm8 (r : R8) (x : Rm8) (s : State) : Host.Outcome State Fault Refusal :=
  finish (s.aluFrom8 .add r x)

/-- `ADD r16, r/m16`, 03 (41_arithmetic R191). -/
def execAddR16Rm16 (r : R16) (x : Rm16) (s : State) : Host.Outcome State Fault Refusal :=
  finish (s.aluFrom16 .add r x)

/-- `ADD AL, imm8`, 04 (41_arithmetic R191). -/
def execAddAlImm8 (imm : Byte) (s : State) : Host.Outcome State Fault Refusal :=
  finish (s.alu8 .add (.reg .al) imm)

/-- `ADD AX, imm16`, 05 (41_arithmetic R191). -/
def execAddAxImm16 (imm : Word) (s : State) : Host.Outcome State Fault Refusal :=
  finish (s.alu16 .add (.reg .ax) imm)

/-- `ADC r/m8, r8`, 10 (41_arithmetic R192). -/
def execAdcRm8R8 (d : Rm8) (r : R8) (s : State) : Host.Outcome State Fault Refusal :=
  finish (s.alu8 .adc (s.loc d) (s.r8 r))

/-- `ADC r/m16, r16`, 11 (41_arithmetic R192). -/
def execAdcRm16R16 (d : Rm16) (r : R16) (s : State) : Host.Outcome State Fault Refusal :=
  finish (s.alu16 .adc (s.loc d) (s.r16 r))

/-- `ADC r8, r/m8`, 12 (41_arithmetic R192). -/
def execAdcR8Rm8 (r : R8) (x : Rm8) (s : State) : Host.Outcome State Fault Refusal :=
  finish (s.aluFrom8 .adc r x)

/-- `ADC r16, r/m16`, 13 (41_arithmetic R192). -/
def execAdcR16Rm16 (r : R16) (x : Rm16) (s : State) : Host.Outcome State Fault Refusal :=
  finish (s.aluFrom16 .adc r x)

/-- `ADC AL, imm8`, 14 (41_arithmetic R192). -/
def execAdcAlImm8 (imm : Byte) (s : State) : Host.Outcome State Fault Refusal :=
  finish (s.alu8 .adc (.reg .al) imm)

/-- `ADC AX, imm16`, 15 (41_arithmetic R192). -/
def execAdcAxImm16 (imm : Word) (s : State) : Host.Outcome State Fault Refusal :=
  finish (s.alu16 .adc (.reg .ax) imm)

/-- `SBB r/m8, r8`, 18 (41_arithmetic R194). -/
def execSbbRm8R8 (d : Rm8) (r : R8) (s : State) : Host.Outcome State Fault Refusal :=
  finish (s.alu8 .sbb (s.loc d) (s.r8 r))

/-- `SBB r/m16, r16`, 19 (41_arithmetic R194). -/
def execSbbRm16R16 (d : Rm16) (r : R16) (s : State) : Host.Outcome State Fault Refusal :=
  finish (s.alu16 .sbb (s.loc d) (s.r16 r))

/-- `SBB r8, r/m8`, 1A (41_arithmetic R194). -/
def execSbbR8Rm8 (r : R8) (x : Rm8) (s : State) : Host.Outcome State Fault Refusal :=
  finish (s.aluFrom8 .sbb r x)

/-- `SBB r16, r/m16`, 1B (41_arithmetic R194). -/
def execSbbR16Rm16 (r : R16) (x : Rm16) (s : State) : Host.Outcome State Fault Refusal :=
  finish (s.aluFrom16 .sbb r x)

/-- `SBB AL, imm8`, 1C (41_arithmetic R194). -/
def execSbbAlImm8 (imm : Byte) (s : State) : Host.Outcome State Fault Refusal :=
  finish (s.alu8 .sbb (.reg .al) imm)

/-- `SBB AX, imm16`, 1D (41_arithmetic R194). -/
def execSbbAxImm16 (imm : Word) (s : State) : Host.Outcome State Fault Refusal :=
  finish (s.alu16 .sbb (.reg .ax) imm)

/-- `SUB r/m8, r8`, 28 (41_arithmetic R193). -/
def execSubRm8R8 (d : Rm8) (r : R8) (s : State) : Host.Outcome State Fault Refusal :=
  finish (s.alu8 .sub (s.loc d) (s.r8 r))

/-- `SUB r/m16, r16`, 29 (41_arithmetic R193). -/
def execSubRm16R16 (d : Rm16) (r : R16) (s : State) : Host.Outcome State Fault Refusal :=
  finish (s.alu16 .sub (s.loc d) (s.r16 r))

/-- `SUB r8, r/m8`, 2A (41_arithmetic R193). -/
def execSubR8Rm8 (r : R8) (x : Rm8) (s : State) : Host.Outcome State Fault Refusal :=
  finish (s.aluFrom8 .sub r x)

/-- `SUB r16, r/m16`, 2B (41_arithmetic R193). -/
def execSubR16Rm16 (r : R16) (x : Rm16) (s : State) : Host.Outcome State Fault Refusal :=
  finish (s.aluFrom16 .sub r x)

/-- `SUB AL, imm8`, 2C (41_arithmetic R193). -/
def execSubAlImm8 (imm : Byte) (s : State) : Host.Outcome State Fault Refusal :=
  finish (s.alu8 .sub (.reg .al) imm)

/-- `SUB AX, imm16`, 2D (41_arithmetic R193). -/
def execSubAxImm16 (imm : Word) (s : State) : Host.Outcome State Fault Refusal :=
  finish (s.alu16 .sub (.reg .ax) imm)

/-- `CMP r/m8, r8`, 38 (41_arithmetic R195). -/
def execCmpRm8R8 (d : Rm8) (r : R8) (s : State) : Host.Outcome State Fault Refusal :=
  finish (s.alu8 .cmp (s.loc d) (s.r8 r))

/-- `CMP r/m16, r16`, 39 (41_arithmetic R195). -/
def execCmpRm16R16 (d : Rm16) (r : R16) (s : State) : Host.Outcome State Fault Refusal :=
  finish (s.alu16 .cmp (s.loc d) (s.r16 r))

/-- `CMP r8, r/m8`, 3A (41_arithmetic R195). -/
def execCmpR8Rm8 (r : R8) (x : Rm8) (s : State) : Host.Outcome State Fault Refusal :=
  finish (s.aluFrom8 .cmp r x)

/-- `CMP r16, r/m16`, 3B (41_arithmetic R195). -/
def execCmpR16Rm16 (r : R16) (x : Rm16) (s : State) : Host.Outcome State Fault Refusal :=
  finish (s.aluFrom16 .cmp r x)

/-- `CMP AL, imm8`, 3C (41_arithmetic R195). -/
def execCmpAlImm8 (imm : Byte) (s : State) : Host.Outcome State Fault Refusal :=
  finish (s.alu8 .cmp (.reg .al) imm)

/-- `CMP AX, imm16`, 3D (41_arithmetic R195). -/
def execCmpAxImm16 (imm : Word) (s : State) : Host.Outcome State Fault Refusal :=
  finish (s.alu16 .cmp (.reg .ax) imm)

/-- `INC r16`, 40+i (41_arithmetic R196). -/
def execIncR16 (r : R16) (s : State) : Host.Outcome State Fault Refusal :=
  finish (s.inc16 (.reg r))

/-- `DEC r16`, 48+i (41_arithmetic R197). -/
def execDecR16 (r : R16) (s : State) : Host.Outcome State Fault Refusal :=
  finish (s.dec16 (.reg r))

/-- `IMUL r16, r/m16, imm16`, 69 (41_arithmetic R201). -/
def execImulR16Rm16Imm16 (r : R16) (x : Rm16) (imm : Word) (s : State) : Host.Outcome State Fault Refusal :=
  finish (s.imul3 r (s.loc x) imm)

/-- `IMUL r16, r/m16, imm8`, 6B (41_arithmetic R201). -/
def execImulR16Rm16Imm8 (r : R16) (x : Rm16) (imm : Byte) (s : State) : Host.Outcome State Fault Refusal :=
  finish (s.imul3 r (s.loc x) (sext16 imm))

/-- `ADD r/m8, imm8`, 80 /0 (41_arithmetic R191). -/
def execAddRm8Imm8 (d : Rm8) (imm : Byte) (s : State) : Host.Outcome State Fault Refusal :=
  finish (s.alu8 .add (s.loc d) imm)

/-- `ADC r/m8, imm8`, 80 /2 (41_arithmetic R192). -/
def execAdcRm8Imm8 (d : Rm8) (imm : Byte) (s : State) : Host.Outcome State Fault Refusal :=
  finish (s.alu8 .adc (s.loc d) imm)

/-- `SBB r/m8, imm8`, 80 /3 (41_arithmetic R194). -/
def execSbbRm8Imm8 (d : Rm8) (imm : Byte) (s : State) : Host.Outcome State Fault Refusal :=
  finish (s.alu8 .sbb (s.loc d) imm)

/-- `SUB r/m8, imm8`, 80 /5 (41_arithmetic R193). -/
def execSubRm8Imm8 (d : Rm8) (imm : Byte) (s : State) : Host.Outcome State Fault Refusal :=
  finish (s.alu8 .sub (s.loc d) imm)

/-- `CMP r/m8, imm8`, 80 /7 (41_arithmetic R195). -/
def execCmpRm8Imm8 (d : Rm8) (imm : Byte) (s : State) : Host.Outcome State Fault Refusal :=
  finish (s.alu8 .cmp (s.loc d) imm)

/-- `ADD r/m16, imm16`, 81 /0 (41_arithmetic R191). -/
def execAddRm16Imm16 (d : Rm16) (imm : Word) (s : State) : Host.Outcome State Fault Refusal :=
  finish (s.alu16 .add (s.loc d) imm)

/-- `ADC r/m16, imm16`, 81 /2 (41_arithmetic R192). -/
def execAdcRm16Imm16 (d : Rm16) (imm : Word) (s : State) : Host.Outcome State Fault Refusal :=
  finish (s.alu16 .adc (s.loc d) imm)

/-- `SBB r/m16, imm16`, 81 /3 (41_arithmetic R194). -/
def execSbbRm16Imm16 (d : Rm16) (imm : Word) (s : State) : Host.Outcome State Fault Refusal :=
  finish (s.alu16 .sbb (s.loc d) imm)

/-- `SUB r/m16, imm16`, 81 /5 (41_arithmetic R193). -/
def execSubRm16Imm16 (d : Rm16) (imm : Word) (s : State) : Host.Outcome State Fault Refusal :=
  finish (s.alu16 .sub (s.loc d) imm)

/-- `CMP r/m16, imm16`, 81 /7 (41_arithmetic R195). -/
def execCmpRm16Imm16 (d : Rm16) (imm : Word) (s : State) : Host.Outcome State Fault Refusal :=
  finish (s.alu16 .cmp (s.loc d) imm)

/-- `ADD r/m16, imm8`, 83 /0 (41_arithmetic R191). -/
def execAddRm16Imm8 (d : Rm16) (imm : Byte) (s : State) : Host.Outcome State Fault Refusal :=
  finish (s.alu16 .add (s.loc d) (sext16 imm))

/-- `ADC r/m16, imm8`, 83 /2 (41_arithmetic R192). -/
def execAdcRm16Imm8 (d : Rm16) (imm : Byte) (s : State) : Host.Outcome State Fault Refusal :=
  finish (s.alu16 .adc (s.loc d) (sext16 imm))

/-- `SBB r/m16, imm8`, 83 /3 (41_arithmetic R194). -/
def execSbbRm16Imm8 (d : Rm16) (imm : Byte) (s : State) : Host.Outcome State Fault Refusal :=
  finish (s.alu16 .sbb (s.loc d) (sext16 imm))

/-- `SUB r/m16, imm8`, 83 /5 (41_arithmetic R193). -/
def execSubRm16Imm8 (d : Rm16) (imm : Byte) (s : State) : Host.Outcome State Fault Refusal :=
  finish (s.alu16 .sub (s.loc d) (sext16 imm))

/-- `CMP r/m16, imm8`, 83 /7 (41_arithmetic R195). -/
def execCmpRm16Imm8 (d : Rm16) (imm : Byte) (s : State) : Host.Outcome State Fault Refusal :=
  finish (s.alu16 .cmp (s.loc d) (sext16 imm))

/-- `NEG r/m8`, F6 /3 (41_arithmetic R198). -/
def execNegRm8 (d : Rm8) (s : State) : Host.Outcome State Fault Refusal :=
  finish (s.neg8 (s.loc d))

/-- `MUL r/m8`, F6 /4 (41_arithmetic R199). -/
def execMulRm8 (d : Rm8) (s : State) : Host.Outcome State Fault Refusal :=
  finish (s.mul8 (s.loc d))

/-- `IMUL r/m8`, F6 /5 (41_arithmetic R200). -/
def execImulRm8 (d : Rm8) (s : State) : Host.Outcome State Fault Refusal :=
  finish (s.imul8 (s.loc d))

/-- `DIV r/m8`, F6 /6 (41_arithmetic R202). -/
def execDivRm8 (d : Rm8) (s : State) : Host.Outcome State Fault Refusal :=
  finish (s.div8 (s.loc d))

/-- `IDIV r/m8`, F6 /7 (41_arithmetic R203). -/
def execIdivRm8 (d : Rm8) (s : State) : Host.Outcome State Fault Refusal :=
  finish (s.idiv8 (s.loc d))

/-- `NEG r/m16`, F7 /3 (41_arithmetic R198). -/
def execNegRm16 (d : Rm16) (s : State) : Host.Outcome State Fault Refusal :=
  finish (s.neg16 (s.loc d))

/-- `MUL r/m16`, F7 /4 (41_arithmetic R199). -/
def execMulRm16 (d : Rm16) (s : State) : Host.Outcome State Fault Refusal :=
  finish (s.mul16 (s.loc d))

/-- `IMUL r/m16`, F7 /5 (41_arithmetic R200). -/
def execImulRm16 (d : Rm16) (s : State) : Host.Outcome State Fault Refusal :=
  finish (s.imul16 (s.loc d))

/-- `DIV r/m16`, F7 /6 (41_arithmetic R202). -/
def execDivRm16 (d : Rm16) (s : State) : Host.Outcome State Fault Refusal :=
  finish (s.div16 (s.loc d))

/-- `IDIV r/m16`, F7 /7 (41_arithmetic R203). -/
def execIdivRm16 (d : Rm16) (s : State) : Host.Outcome State Fault Refusal :=
  finish (s.idiv16 (s.loc d))

/-- `INC r/m8`, FE /0 (41_arithmetic R196). -/
def execIncRm8 (d : Rm8) (s : State) : Host.Outcome State Fault Refusal :=
  finish (s.inc8 (s.loc d))

/-- `DEC r/m8`, FE /1 (41_arithmetic R197). -/
def execDecRm8 (d : Rm8) (s : State) : Host.Outcome State Fault Refusal :=
  finish (s.dec8 (s.loc d))

/-- `INC r/m16`, FF /0 (41_arithmetic R196). -/
def execIncRm16 (d : Rm16) (s : State) : Host.Outcome State Fault Refusal :=
  finish (s.inc16 (s.loc d))

/-- `DEC r/m16`, FF /1 (41_arithmetic R197). -/
def execDecRm16 (d : Rm16) (s : State) : Host.Outcome State Fault Refusal :=
  finish (s.dec16 (s.loc d))

end Sys2Proof.Machine
end

