-- ==== Sys2Proof/Machine/Control.lean ====
section
/-! DEFINITION. Control transfer (43_control_transfer R250 to R271). `IP` holds `next_ip` when a meaning runs (LOG 2). -/

namespace Sys2Proof.Machine

/-- `JMP r/m16` (43_control_transfer R252). -/
def State.jumpTo (s : State) (l : Loc R16) : Except Fault State := do
  let v ← s.get16 l
  pure (s.setIp v)

/-- `JMP m16:16` (43_control_transfer R254). -/
def State.jumpFar (s : State) (m : Mem) : Except Fault State := do
  let p ← s.readPair (s.sel m) (s.off m)
  pure (s.setCsIp p.2 p.1)

/-- `LOOP`, `LOOPE`, `LOOPNE`: `CX` is decremented, no flag is written (43_control_transfer R256 to R258). -/
def State.loopIf (s : State) (also : Bool) (rel : Byte) : State :=
  let t := s.setR16 .cx (s.gpr.cx - 1)
  t.jumpIf (decide (t.gpr.cx ≠ 0) && also) rel

/-- A near call to an offset (43_control_transfer R260). -/
def State.callNear (s : State) (target : Word) : Except Fault State := do
  let t ← s.push16 s.ip
  pure (t.setIp target)

/-- `CALL r/m16`: the target is read before the push (43_control_transfer R261). -/
def State.callTo (s : State) (l : Loc R16) : Except Fault State := do
  let target ← s.get16 l
  s.callNear target

/-- A far call: to the host if the selector is designated, nothing pushed; else the selector, then the offset of the
next instruction, pushed (43_control_transfer R262, R266). -/
def State.callFar (s : State) (sel off : Word) : Except Fault State :=
  if sel ∈ s.params.hostFarSelectors then .ok (s.hostFarCall sel off)
  else do
    let t ← s.push16 s.sreg.cs
    let u ← t.push16 s.ip
    pure (u.setCsIp sel off)

/-- `CALL m16:16` (43_control_transfer R263). -/
def State.callFarAt (s : State) (m : Mem) : Except Fault State := do
  let p ← s.readPair (s.sel m) (s.off m)
  s.callFar p.2 p.1

/-- `SP <- trunc_16(SP + imm16)`, not checked (43_control_transfer R264). -/
def State.releaseArgs (s : State) (imm : Word) : State := s.setR16 .sp (s.gpr.sp + imm)

/-- `RET`, `RET imm16` (43_control_transfer R264). -/
def State.retNear (s : State) (imm : Word) : Except Fault State := do
  let p ← s.pop16
  pure ((p.2.setIp p.1).releaseArgs imm)

/-- `RETF`, `RETF imm16` (43_control_transfer R265). -/
def State.retFar (s : State) (imm : Word) : Except Fault State := do
  let p ← s.pop16
  let q ← p.2.pop16
  pure ((q.2.setCsIp q.1 p.1).releaseArgs imm)

/-- `IRET`: a plain three-word pop (43_control_transfer R270, 60_exceptions R473). -/
def State.interruptReturn (s : State) : Except Fault State := do
  let p ← s.pop16
  let q ← p.2.pop16
  let f ← q.2.pop16
  pure ((f.2.setCsIp q.1 p.1).setFlags (Flags.ofImage f.1))

/-- `BOUND`: signed, both bounds inclusive (43_control_transfer R271). -/
def State.boundCheck (s : State) (r : R16) (m : Mem) : Except Fault State := do
  let p ← s.readPair (s.sel m) (s.off m)
  let x := (s.r16 r).toInt
  if x < p.1.toInt ∨ p.2.toInt < x then pure (s.hostInterrupt 5) else pure s

/-! ## One meaning for each row of the opcode table -/

/-- `BOUND r16, m16&16`, 62 (43_control_transfer R271). -/
def execBoundR16M1616 (r : R16) (m : Mem) (s : State) : Host.Outcome State Fault Refusal :=
  finish (s.boundCheck r m)

/-- `JO rel8`, 70 (43_control_transfer R255). -/
def execJoRel8 (rel : Byte) (s : State) : Host.Outcome State Fault Refusal :=
  finish (.ok (s.jumpIf (Cond.holds .o s.flags) rel))

/-- `JNO rel8`, 71 (43_control_transfer R255). -/
def execJnoRel8 (rel : Byte) (s : State) : Host.Outcome State Fault Refusal :=
  finish (.ok (s.jumpIf (Cond.holds .no s.flags) rel))

/-- `JB rel8`, 72 (43_control_transfer R255). -/
def execJbRel8 (rel : Byte) (s : State) : Host.Outcome State Fault Refusal :=
  finish (.ok (s.jumpIf (Cond.holds .b s.flags) rel))

/-- `JNB rel8`, 73 (43_control_transfer R255). -/
def execJnbRel8 (rel : Byte) (s : State) : Host.Outcome State Fault Refusal :=
  finish (.ok (s.jumpIf (Cond.holds .nb s.flags) rel))

/-- `JZ rel8`, 74 (43_control_transfer R255). -/
def execJzRel8 (rel : Byte) (s : State) : Host.Outcome State Fault Refusal :=
  finish (.ok (s.jumpIf (Cond.holds .z s.flags) rel))

/-- `JNZ rel8`, 75 (43_control_transfer R255). -/
def execJnzRel8 (rel : Byte) (s : State) : Host.Outcome State Fault Refusal :=
  finish (.ok (s.jumpIf (Cond.holds .nz s.flags) rel))

/-- `JBE rel8`, 76 (43_control_transfer R255). -/
def execJbeRel8 (rel : Byte) (s : State) : Host.Outcome State Fault Refusal :=
  finish (.ok (s.jumpIf (Cond.holds .be s.flags) rel))

/-- `JNBE rel8`, 77 (43_control_transfer R255). -/
def execJnbeRel8 (rel : Byte) (s : State) : Host.Outcome State Fault Refusal :=
  finish (.ok (s.jumpIf (Cond.holds .nbe s.flags) rel))

/-- `JS rel8`, 78 (43_control_transfer R255). -/
def execJsRel8 (rel : Byte) (s : State) : Host.Outcome State Fault Refusal :=
  finish (.ok (s.jumpIf (Cond.holds .s s.flags) rel))

/-- `JNS rel8`, 79 (43_control_transfer R255). -/
def execJnsRel8 (rel : Byte) (s : State) : Host.Outcome State Fault Refusal :=
  finish (.ok (s.jumpIf (Cond.holds .ns s.flags) rel))

/-- `JP rel8`, 7A (43_control_transfer R255). -/
def execJpRel8 (rel : Byte) (s : State) : Host.Outcome State Fault Refusal :=
  finish (.ok (s.jumpIf (Cond.holds .p s.flags) rel))

/-- `JNP rel8`, 7B (43_control_transfer R255). -/
def execJnpRel8 (rel : Byte) (s : State) : Host.Outcome State Fault Refusal :=
  finish (.ok (s.jumpIf (Cond.holds .np s.flags) rel))

/-- `JL rel8`, 7C (43_control_transfer R255). -/
def execJlRel8 (rel : Byte) (s : State) : Host.Outcome State Fault Refusal :=
  finish (.ok (s.jumpIf (Cond.holds .l s.flags) rel))

/-- `JNL rel8`, 7D (43_control_transfer R255). -/
def execJnlRel8 (rel : Byte) (s : State) : Host.Outcome State Fault Refusal :=
  finish (.ok (s.jumpIf (Cond.holds .nl s.flags) rel))

/-- `JLE rel8`, 7E (43_control_transfer R255). -/
def execJleRel8 (rel : Byte) (s : State) : Host.Outcome State Fault Refusal :=
  finish (.ok (s.jumpIf (Cond.holds .le s.flags) rel))

/-- `JNLE rel8`, 7F (43_control_transfer R255). -/
def execJnleRel8 (rel : Byte) (s : State) : Host.Outcome State Fault Refusal :=
  finish (.ok (s.jumpIf (Cond.holds .nle s.flags) rel))

/-- `CALL ptr16:16`, 9A (43_control_transfer R262). -/
def execCallPtr1616 (off : Word) (sel : Word) (s : State) : Host.Outcome State Fault Refusal :=
  finish (s.callFar sel off)

/-- `RET imm16`, C2 (43_control_transfer R264). -/
def execRetImm16 (imm : Word) (s : State) : Host.Outcome State Fault Refusal :=
  finish (s.retNear imm)

/-- `RET`, C3 (43_control_transfer R264). -/
def execRet (s : State) : Host.Outcome State Fault Refusal :=
  finish (s.retNear 0)

/-- `RETF imm16`, CA (43_control_transfer R265). -/
def execRetfImm16 (imm : Word) (s : State) : Host.Outcome State Fault Refusal :=
  finish (s.retFar imm)

/-- `RETF`, CB (43_control_transfer R265). -/
def execRetf (s : State) : Host.Outcome State Fault Refusal :=
  finish (s.retFar 0)

/-- `INT3`, CC (43_control_transfer R268). -/
def execInt3 (s : State) : Host.Outcome State Fault Refusal :=
  finish (.ok (s.hostInterrupt 3))

/-- `INT imm8`, CD (43_control_transfer R267). -/
def execIntImm8 (imm : Byte) (s : State) : Host.Outcome State Fault Refusal :=
  finish (.ok (s.hostInterrupt imm))

/-- `INTO`, CE (43_control_transfer R269). -/
def execInto (s : State) : Host.Outcome State Fault Refusal :=
  finish (.ok (if s.flags.OF then s.hostInterrupt 4 else s))

/-- `IRET`, CF (43_control_transfer R270). -/
def execIret (s : State) : Host.Outcome State Fault Refusal :=
  finish (s.interruptReturn)

/-- `LOOPNE rel8`, E0 (43_control_transfer R258). -/
def execLoopneRel8 (rel : Byte) (s : State) : Host.Outcome State Fault Refusal :=
  finish (.ok (s.loopIf (!s.flags.ZF) rel))

/-- `LOOPE rel8`, E1 (43_control_transfer R257). -/
def execLoopeRel8 (rel : Byte) (s : State) : Host.Outcome State Fault Refusal :=
  finish (.ok (s.loopIf s.flags.ZF rel))

/-- `LOOP rel8`, E2 (43_control_transfer R256). -/
def execLoopRel8 (rel : Byte) (s : State) : Host.Outcome State Fault Refusal :=
  finish (.ok (s.loopIf true rel))

/-- `JCXZ rel8`, E3 (43_control_transfer R259). -/
def execJcxzRel8 (rel : Byte) (s : State) : Host.Outcome State Fault Refusal :=
  finish (.ok (s.jumpIf (decide (s.gpr.cx = 0)) rel))

/-- `CALL rel16`, E8 (43_control_transfer R260). -/
def execCallRel16 (rel : Word) (s : State) : Host.Outcome State Fault Refusal :=
  finish (s.callNear (s.ip + rel))

/-- `JMP rel16`, E9 (43_control_transfer R251). -/
def execJmpRel16 (rel : Word) (s : State) : Host.Outcome State Fault Refusal :=
  finish (.ok (s.jumpRel rel))

/-- `JMP ptr16:16`, EA (43_control_transfer R253). -/
def execJmpPtr1616 (off : Word) (sel : Word) (s : State) : Host.Outcome State Fault Refusal :=
  finish (.ok (s.setCsIp sel off))

/-- `JMP rel8`, EB (43_control_transfer R251). -/
def execJmpRel8 (rel : Byte) (s : State) : Host.Outcome State Fault Refusal :=
  finish (.ok (s.jumpRel (sext16 rel)))

/-- `CALL r/m16`, FF /2 (43_control_transfer R261). -/
def execCallRm16 (d : Rm16) (s : State) : Host.Outcome State Fault Refusal :=
  finish (s.callTo (s.loc d))

/-- `CALL m16:16`, FF /3 (43_control_transfer R263). -/
def execCallM1616 (m : Mem) (s : State) : Host.Outcome State Fault Refusal :=
  finish (s.callFarAt m)

/-- `JMP r/m16`, FF /4 (43_control_transfer R252). -/
def execJmpRm16 (d : Rm16) (s : State) : Host.Outcome State Fault Refusal :=
  finish (s.jumpTo (s.loc d))

/-- `JMP m16:16`, FF /5 (43_control_transfer R254). -/
def execJmpM1616 (m : Mem) (s : State) : Host.Outcome State Fault Refusal :=
  finish (s.jumpFar m)

end Sys2Proof.Machine
end

