-- ==== Sys2Proof/Machine/DataMovement.lean ====
section
/-! DEFINITION. Data movement (40_data_movement R170 to R182). -/

namespace Sys2Proof.Machine

/-- A byte moved from a location to another (40_data_movement R171). -/
def State.move8 (s : State) (dst src : Loc R8) : Except Fault State := do
  let v ← s.get8 src
  s.put8 dst v

/-- A word moved from a location to another (40_data_movement R171). -/
def State.move16 (s : State) (dst src : Loc R16) : Except Fault State := do
  let v ← s.get16 src
  s.put16 dst v

/-- `MOV Sreg, r/m16` (40_data_movement R172). -/
def State.loadSeg (s : State) (r : SReg) (src : Loc R16) : Except Fault State := do
  let v ← s.get16 src
  pure (s.setSeg r v)

/-- Both operands read, then both written (40_data_movement R174). -/
def State.xchg8 (s : State) (x y : Loc R8) : Except Fault State := do
  let a ← s.get8 x
  let b ← s.get8 y
  let t ← s.put8 x b
  t.put8 y a

/-- The exchange of two words (40_data_movement R174). -/
def State.xchg16 (s : State) (x y : Loc R16) : Except Fault State := do
  let a ← s.get16 x
  let b ← s.get16 y
  let t ← s.put16 x b
  t.put16 y a

/-- `LDS`, `LES`: both reads use the selector resolved at decode (40_data_movement R176, R177). -/
def State.loadFar (s : State) (r : R16) (g : SReg) (m : Mem) : Except Fault State := do
  let p ← s.readPair (s.sel m) (s.off m)
  pure ((s.setR16 r p.1).setSeg g p.2)

/-- `XLAT`: `AL` is added unsigned, the sum wraps (40_data_movement R178). -/
def State.xlatFrom (s : State) (seg : SReg) : Except Fault State := do
  let v ← s.read8 (s.seg seg) (s.gpr.bx + (s.r8 .al).setWidth 16)
  pure (s.setR8 .al v)

/-! ## One meaning for each row of the opcode table -/

/-- `XCHG r8, r/m8`, 86 (40_data_movement R174). -/
def execXchgR8Rm8 (r : R8) (x : Rm8) (s : State) : Host.Outcome State Fault Refusal :=
  finish (s.xchg8 (.reg r) (s.loc x))

/-- `XCHG r16, r/m16`, 87 (40_data_movement R174). -/
def execXchgR16Rm16 (r : R16) (x : Rm16) (s : State) : Host.Outcome State Fault Refusal :=
  finish (s.xchg16 (.reg r) (s.loc x))

/-- `MOV r/m8, r8`, 88 (40_data_movement R171). -/
def execMovRm8R8 (d : Rm8) (r : R8) (s : State) : Host.Outcome State Fault Refusal :=
  finish (s.put8 (s.loc d) (s.r8 r))

/-- `MOV r/m16, r16`, 89 (40_data_movement R171). -/
def execMovRm16R16 (d : Rm16) (r : R16) (s : State) : Host.Outcome State Fault Refusal :=
  finish (s.put16 (s.loc d) (s.r16 r))

/-- `MOV r8, r/m8`, 8A (40_data_movement R171). -/
def execMovR8Rm8 (r : R8) (x : Rm8) (s : State) : Host.Outcome State Fault Refusal :=
  finish (s.move8 (.reg r) (s.loc x))

/-- `MOV r16, r/m16`, 8B (40_data_movement R171). -/
def execMovR16Rm16 (r : R16) (x : Rm16) (s : State) : Host.Outcome State Fault Refusal :=
  finish (s.move16 (.reg r) (s.loc x))

/-- `MOV r/m16, ES`, 8C /0 (40_data_movement R172). -/
def execMovRm16Es (d : Rm16) (s : State) : Host.Outcome State Fault Refusal :=
  finish (s.put16 (s.loc d) (s.seg .es))

/-- `MOV r/m16, CS`, 8C /1 (40_data_movement R172). -/
def execMovRm16Cs (d : Rm16) (s : State) : Host.Outcome State Fault Refusal :=
  finish (s.put16 (s.loc d) (s.seg .cs))

/-- `MOV r/m16, SS`, 8C /2 (40_data_movement R172). -/
def execMovRm16Ss (d : Rm16) (s : State) : Host.Outcome State Fault Refusal :=
  finish (s.put16 (s.loc d) (s.seg .ss))

/-- `MOV r/m16, DS`, 8C /3 (40_data_movement R172). -/
def execMovRm16Ds (d : Rm16) (s : State) : Host.Outcome State Fault Refusal :=
  finish (s.put16 (s.loc d) (s.seg .ds))

/-- `LEA r16, m`, 8D (40_data_movement R175). -/
def execLeaR16M (r : R16) (m : Mem) (s : State) : Host.Outcome State Fault Refusal :=
  finish (.ok (s.setR16 r (s.off m)))

/-- `MOV ES, r/m16`, 8E /0 (40_data_movement R172). -/
def execMovEsRm16 (d : Rm16) (s : State) : Host.Outcome State Fault Refusal :=
  finish (s.loadSeg .es (s.loc d))

/-- `MOV SS, r/m16`, 8E /2 (40_data_movement R172). -/
def execMovSsRm16 (d : Rm16) (s : State) : Host.Outcome State Fault Refusal :=
  finish (s.loadSeg .ss (s.loc d))

/-- `MOV DS, r/m16`, 8E /3 (40_data_movement R172). -/
def execMovDsRm16 (d : Rm16) (s : State) : Host.Outcome State Fault Refusal :=
  finish (s.loadSeg .ds (s.loc d))

/-- `NOP`, 90 (40_data_movement R173). -/
def execNop (s : State) : Host.Outcome State Fault Refusal :=
  finish (.ok s)

/-- `XCHG AX, CX`, 91 (40_data_movement R174). -/
def execXchgAxCx (s : State) : Host.Outcome State Fault Refusal :=
  finish (s.xchg16 (.reg .ax) (.reg .cx))

/-- `XCHG AX, DX`, 92 (40_data_movement R174). -/
def execXchgAxDx (s : State) : Host.Outcome State Fault Refusal :=
  finish (s.xchg16 (.reg .ax) (.reg .dx))

/-- `XCHG AX, BX`, 93 (40_data_movement R174). -/
def execXchgAxBx (s : State) : Host.Outcome State Fault Refusal :=
  finish (s.xchg16 (.reg .ax) (.reg .bx))

/-- `XCHG AX, SP`, 94 (40_data_movement R174). -/
def execXchgAxSp (s : State) : Host.Outcome State Fault Refusal :=
  finish (s.xchg16 (.reg .ax) (.reg .sp))

/-- `XCHG AX, BP`, 95 (40_data_movement R174). -/
def execXchgAxBp (s : State) : Host.Outcome State Fault Refusal :=
  finish (s.xchg16 (.reg .ax) (.reg .bp))

/-- `XCHG AX, SI`, 96 (40_data_movement R174). -/
def execXchgAxSi (s : State) : Host.Outcome State Fault Refusal :=
  finish (s.xchg16 (.reg .ax) (.reg .si))

/-- `XCHG AX, DI`, 97 (40_data_movement R174). -/
def execXchgAxDi (s : State) : Host.Outcome State Fault Refusal :=
  finish (s.xchg16 (.reg .ax) (.reg .di))

/-- `CBW`, 98 (40_data_movement R181). -/
def execCbw (s : State) : Host.Outcome State Fault Refusal :=
  finish (.ok (s.setR16 .ax (sext16 (s.r8 .al))))

/-- `CWD`, 99 (40_data_movement R182). -/
def execCwd (s : State) : Host.Outcome State Fault Refusal :=
  finish (.ok (s.setR16 .dx (if s.gpr.ax.msb then 0xFFFF else 0x0000)))

/-- `SAHF`, 9E (40_data_movement R180). -/
def execSahf (s : State) : Host.Outcome State Fault Refusal :=
  finish (.ok (s.setFlags (s.flags.withLowByte (s.r8 .ah))))

/-- `LAHF`, 9F (40_data_movement R179). -/
def execLahf (s : State) : Host.Outcome State Fault Refusal :=
  finish (.ok (s.setR8 .ah (lowByte s.flags.image)))

/-- `MOV AL, moffs8`, A0 (40_data_movement R171). -/
def execMovAlMoffs8 (seg : SReg) (off : Word) (s : State) : Host.Outcome State Fault Refusal :=
  finish (s.move8 (.reg .al) (.mem (s.seg seg) off))

/-- `MOV AX, moffs16`, A1 (40_data_movement R171). -/
def execMovAxMoffs16 (seg : SReg) (off : Word) (s : State) : Host.Outcome State Fault Refusal :=
  finish (s.move16 (.reg .ax) (.mem (s.seg seg) off))

/-- `MOV moffs8, AL`, A2 (40_data_movement R171). -/
def execMovMoffs8Al (seg : SReg) (off : Word) (s : State) : Host.Outcome State Fault Refusal :=
  finish (s.put8 (.mem (s.seg seg) off) (s.r8 .al))

/-- `MOV moffs16, AX`, A3 (40_data_movement R171). -/
def execMovMoffs16Ax (seg : SReg) (off : Word) (s : State) : Host.Outcome State Fault Refusal :=
  finish (s.put16 (.mem (s.seg seg) off) (s.r16 .ax))

/-- `MOV r8, imm8`, B0+i (40_data_movement R171). -/
def execMovR8Imm8 (r : R8) (imm : Byte) (s : State) : Host.Outcome State Fault Refusal :=
  finish (s.put8 (.reg r) imm)

/-- `MOV r16, imm16`, B8+i (40_data_movement R171). -/
def execMovR16Imm16 (r : R16) (imm : Word) (s : State) : Host.Outcome State Fault Refusal :=
  finish (s.put16 (.reg r) imm)

/-- `LES r16, m16:16`, C4 (40_data_movement R177). -/
def execLesR16M1616 (r : R16) (m : Mem) (s : State) : Host.Outcome State Fault Refusal :=
  finish (s.loadFar r .es m)

/-- `LDS r16, m16:16`, C5 (40_data_movement R176). -/
def execLdsR16M1616 (r : R16) (m : Mem) (s : State) : Host.Outcome State Fault Refusal :=
  finish (s.loadFar r .ds m)

/-- `MOV r/m8, imm8`, C6 /0 (40_data_movement R171). -/
def execMovRm8Imm8 (d : Rm8) (imm : Byte) (s : State) : Host.Outcome State Fault Refusal :=
  finish (s.put8 (s.loc d) imm)

/-- `MOV r/m16, imm16`, C7 /0 (40_data_movement R171). -/
def execMovRm16Imm16 (d : Rm16) (imm : Word) (s : State) : Host.Outcome State Fault Refusal :=
  finish (s.put16 (s.loc d) imm)

/-- `XLAT`, D7 (40_data_movement R178). -/
def execXlat (seg : SReg) (s : State) : Host.Outcome State Fault Refusal :=
  finish (s.xlatFrom seg)

end Sys2Proof.Machine
end

