-- ==== Sys2Proof/Machine/FlagControl.lean ====
section
/-! DEFINITION. Flag control, `HLT`, `WAIT` (45_string_flag_misc R320 to R333). -/

namespace Sys2Proof.Machine

/-! ## One meaning for each row of the opcode table -/

/-- `WAIT`, 9B (45_string_flag_misc R333). -/
def execWait (s : State) : Host.Outcome State Fault Refusal :=
  finish (.ok s)

/-- `HLT`, F4 (45_string_flag_misc R331). -/
def execHlt (s : State) : Host.Outcome State Fault Refusal :=
  finish (.ok { s with halted := true })

/-- `CMC`, F5 (45_string_flag_misc R322). -/
def execCmc (s : State) : Host.Outcome State Fault Refusal :=
  finish (.ok (s.setFlags (s.flags.set .CF (!s.flags.CF))))

/-- `CLC`, F8 (45_string_flag_misc R320). -/
def execClc (s : State) : Host.Outcome State Fault Refusal :=
  finish (.ok (s.setFlags (s.flags.set .CF false)))

/-- `STC`, F9 (45_string_flag_misc R321). -/
def execStc (s : State) : Host.Outcome State Fault Refusal :=
  finish (.ok (s.setFlags (s.flags.set .CF true)))

/-- `CLI`, FA (45_string_flag_misc R325). -/
def execCli (s : State) : Host.Outcome State Fault Refusal :=
  finish (.ok (s.setFlags (s.flags.set .IF false)))

/-- `STI`, FB (45_string_flag_misc R326). -/
def execSti (s : State) : Host.Outcome State Fault Refusal :=
  finish (.ok (s.setFlags (s.flags.set .IF true)))

/-- `CLD`, FC (45_string_flag_misc R323). -/
def execCld (s : State) : Host.Outcome State Fault Refusal :=
  finish (.ok (s.setFlags (s.flags.set .DF false)))

/-- `STD`, FD (45_string_flag_misc R324). -/
def execStd (s : State) : Host.Outcome State Fault Refusal :=
  finish (.ok (s.setFlags (s.flags.set .DF true)))

end Sys2Proof.Machine
end

