-- ==== Sys2Proof/Machine/Logic.lean ====
section
/-! DEFINITION. Logic (42_logic R220 to R225). -/

namespace Sys2Proof.Machine

/-- `NOT` writes no flag (42_logic R224). -/
def State.not8 (s : State) (l : Loc R8) : Except Fault State := s.modify8 l (fun a => ~~~a) (fun _ => s.flags)

def State.not16 (s : State) (l : Loc R16) : Except Fault State := s.modify16 l (fun a => ~~~a) (fun _ => s.flags)

/-! ## One meaning for each row of the opcode table -/

/-- `OR r/m8, r8`, 08 (42_logic R222). -/
def execOrRm8R8 (d : Rm8) (r : R8) (s : State) : Host.Outcome State Fault Refusal :=
  finish (s.alu8 .or (s.loc d) (s.r8 r))

/-- `OR r/m16, r16`, 09 (42_logic R222). -/
def execOrRm16R16 (d : Rm16) (r : R16) (s : State) : Host.Outcome State Fault Refusal :=
  finish (s.alu16 .or (s.loc d) (s.r16 r))

/-- `OR r8, r/m8`, 0A (42_logic R222). -/
def execOrR8Rm8 (r : R8) (x : Rm8) (s : State) : Host.Outcome State Fault Refusal :=
  finish (s.aluFrom8 .or r x)

/-- `OR r16, r/m16`, 0B (42_logic R222). -/
def execOrR16Rm16 (r : R16) (x : Rm16) (s : State) : Host.Outcome State Fault Refusal :=
  finish (s.aluFrom16 .or r x)

/-- `OR AL, imm8`, 0C (42_logic R222). -/
def execOrAlImm8 (imm : Byte) (s : State) : Host.Outcome State Fault Refusal :=
  finish (s.alu8 .or (.reg .al) imm)

/-- `OR AX, imm16`, 0D (42_logic R222). -/
def execOrAxImm16 (imm : Word) (s : State) : Host.Outcome State Fault Refusal :=
  finish (s.alu16 .or (.reg .ax) imm)

/-- `AND r/m8, r8`, 20 (42_logic R221). -/
def execAndRm8R8 (d : Rm8) (r : R8) (s : State) : Host.Outcome State Fault Refusal :=
  finish (s.alu8 .and (s.loc d) (s.r8 r))

/-- `AND r/m16, r16`, 21 (42_logic R221). -/
def execAndRm16R16 (d : Rm16) (r : R16) (s : State) : Host.Outcome State Fault Refusal :=
  finish (s.alu16 .and (s.loc d) (s.r16 r))

/-- `AND r8, r/m8`, 22 (42_logic R221). -/
def execAndR8Rm8 (r : R8) (x : Rm8) (s : State) : Host.Outcome State Fault Refusal :=
  finish (s.aluFrom8 .and r x)

/-- `AND r16, r/m16`, 23 (42_logic R221). -/
def execAndR16Rm16 (r : R16) (x : Rm16) (s : State) : Host.Outcome State Fault Refusal :=
  finish (s.aluFrom16 .and r x)

/-- `AND AL, imm8`, 24 (42_logic R221). -/
def execAndAlImm8 (imm : Byte) (s : State) : Host.Outcome State Fault Refusal :=
  finish (s.alu8 .and (.reg .al) imm)

/-- `AND AX, imm16`, 25 (42_logic R221). -/
def execAndAxImm16 (imm : Word) (s : State) : Host.Outcome State Fault Refusal :=
  finish (s.alu16 .and (.reg .ax) imm)

/-- `XOR r/m8, r8`, 30 (42_logic R223). -/
def execXorRm8R8 (d : Rm8) (r : R8) (s : State) : Host.Outcome State Fault Refusal :=
  finish (s.alu8 .xor (s.loc d) (s.r8 r))

/-- `XOR r/m16, r16`, 31 (42_logic R223). -/
def execXorRm16R16 (d : Rm16) (r : R16) (s : State) : Host.Outcome State Fault Refusal :=
  finish (s.alu16 .xor (s.loc d) (s.r16 r))

/-- `XOR r8, r/m8`, 32 (42_logic R223). -/
def execXorR8Rm8 (r : R8) (x : Rm8) (s : State) : Host.Outcome State Fault Refusal :=
  finish (s.aluFrom8 .xor r x)

/-- `XOR r16, r/m16`, 33 (42_logic R223). -/
def execXorR16Rm16 (r : R16) (x : Rm16) (s : State) : Host.Outcome State Fault Refusal :=
  finish (s.aluFrom16 .xor r x)

/-- `XOR AL, imm8`, 34 (42_logic R223). -/
def execXorAlImm8 (imm : Byte) (s : State) : Host.Outcome State Fault Refusal :=
  finish (s.alu8 .xor (.reg .al) imm)

/-- `XOR AX, imm16`, 35 (42_logic R223). -/
def execXorAxImm16 (imm : Word) (s : State) : Host.Outcome State Fault Refusal :=
  finish (s.alu16 .xor (.reg .ax) imm)

/-- `OR r/m8, imm8`, 80 /1 (42_logic R222). -/
def execOrRm8Imm8 (d : Rm8) (imm : Byte) (s : State) : Host.Outcome State Fault Refusal :=
  finish (s.alu8 .or (s.loc d) imm)

/-- `AND r/m8, imm8`, 80 /4 (42_logic R221). -/
def execAndRm8Imm8 (d : Rm8) (imm : Byte) (s : State) : Host.Outcome State Fault Refusal :=
  finish (s.alu8 .and (s.loc d) imm)

/-- `XOR r/m8, imm8`, 80 /6 (42_logic R223). -/
def execXorRm8Imm8 (d : Rm8) (imm : Byte) (s : State) : Host.Outcome State Fault Refusal :=
  finish (s.alu8 .xor (s.loc d) imm)

/-- `OR r/m16, imm16`, 81 /1 (42_logic R222). -/
def execOrRm16Imm16 (d : Rm16) (imm : Word) (s : State) : Host.Outcome State Fault Refusal :=
  finish (s.alu16 .or (s.loc d) imm)

/-- `AND r/m16, imm16`, 81 /4 (42_logic R221). -/
def execAndRm16Imm16 (d : Rm16) (imm : Word) (s : State) : Host.Outcome State Fault Refusal :=
  finish (s.alu16 .and (s.loc d) imm)

/-- `XOR r/m16, imm16`, 81 /6 (42_logic R223). -/
def execXorRm16Imm16 (d : Rm16) (imm : Word) (s : State) : Host.Outcome State Fault Refusal :=
  finish (s.alu16 .xor (s.loc d) imm)

/-- `OR r/m16, imm8`, 83 /1 (42_logic R222). -/
def execOrRm16Imm8 (d : Rm16) (imm : Byte) (s : State) : Host.Outcome State Fault Refusal :=
  finish (s.alu16 .or (s.loc d) (sext16 imm))

/-- `AND r/m16, imm8`, 83 /4 (42_logic R221). -/
def execAndRm16Imm8 (d : Rm16) (imm : Byte) (s : State) : Host.Outcome State Fault Refusal :=
  finish (s.alu16 .and (s.loc d) (sext16 imm))

/-- `XOR r/m16, imm8`, 83 /6 (42_logic R223). -/
def execXorRm16Imm8 (d : Rm16) (imm : Byte) (s : State) : Host.Outcome State Fault Refusal :=
  finish (s.alu16 .xor (s.loc d) (sext16 imm))

/-- `TEST r/m8, r8`, 84 (42_logic R225). -/
def execTestRm8R8 (d : Rm8) (r : R8) (s : State) : Host.Outcome State Fault Refusal :=
  finish (s.alu8 .test (s.loc d) (s.r8 r))

/-- `TEST r/m16, r16`, 85 (42_logic R225). -/
def execTestRm16R16 (d : Rm16) (r : R16) (s : State) : Host.Outcome State Fault Refusal :=
  finish (s.alu16 .test (s.loc d) (s.r16 r))

/-- `TEST AL, imm8`, A8 (42_logic R225). -/
def execTestAlImm8 (imm : Byte) (s : State) : Host.Outcome State Fault Refusal :=
  finish (s.alu8 .test (.reg .al) imm)

/-- `TEST AX, imm16`, A9 (42_logic R225). -/
def execTestAxImm16 (imm : Word) (s : State) : Host.Outcome State Fault Refusal :=
  finish (s.alu16 .test (.reg .ax) imm)

/-- `TEST r/m8, imm8`, F6 /0 (42_logic R225). -/
def execTestRm8Imm8 (d : Rm8) (imm : Byte) (s : State) : Host.Outcome State Fault Refusal :=
  finish (s.alu8 .test (s.loc d) imm)

/-- `NOT r/m8`, F6 /2 (42_logic R224). -/
def execNotRm8 (d : Rm8) (s : State) : Host.Outcome State Fault Refusal :=
  finish (s.not8 (s.loc d))

/-- `TEST r/m16, imm16`, F7 /0 (42_logic R225). -/
def execTestRm16Imm16 (d : Rm16) (imm : Word) (s : State) : Host.Outcome State Fault Refusal :=
  finish (s.alu16 .test (s.loc d) imm)

/-- `NOT r/m16`, F7 /2 (42_logic R224). -/
def execNotRm16 (d : Rm16) (s : State) : Host.Outcome State Fault Refusal :=
  finish (s.not16 (s.loc d))

end Sys2Proof.Machine
end

