-- ==== Sys2Proof/Machine/Shift.lean ====
section
/-! DEFINITION. Shifts and rotates (42_logic R226 to R233). -/

namespace Sys2Proof.Machine

/-! ## One meaning for each row of the opcode table -/

/-- `ROL r/m8, imm8`, C0 /0 (42_logic R230). -/
def execRolRm8Imm8 (d : Rm8) (imm : Byte) (s : State) : Host.Outcome State Fault Refusal :=
  finish (s.shift8 .rol d imm)

/-- `ROR r/m8, imm8`, C0 /1 (42_logic R231). -/
def execRorRm8Imm8 (d : Rm8) (imm : Byte) (s : State) : Host.Outcome State Fault Refusal :=
  finish (s.shift8 .ror d imm)

/-- `RCL r/m8, imm8`, C0 /2 (42_logic R232). -/
def execRclRm8Imm8 (d : Rm8) (imm : Byte) (s : State) : Host.Outcome State Fault Refusal :=
  finish (s.shift8 .rcl d imm)

/-- `RCR r/m8, imm8`, C0 /3 (42_logic R233). -/
def execRcrRm8Imm8 (d : Rm8) (imm : Byte) (s : State) : Host.Outcome State Fault Refusal :=
  finish (s.shift8 .rcr d imm)

/-- `SHL r/m8, imm8`, C0 /4 (42_logic R227). -/
def execShlRm8Imm8 (d : Rm8) (imm : Byte) (s : State) : Host.Outcome State Fault Refusal :=
  finish (s.shift8 .shl d imm)

/-- `SHR r/m8, imm8`, C0 /5 (42_logic R228). -/
def execShrRm8Imm8 (d : Rm8) (imm : Byte) (s : State) : Host.Outcome State Fault Refusal :=
  finish (s.shift8 .shr d imm)

/-- `SAR r/m8, imm8`, C0 /7 (42_logic R229). -/
def execSarRm8Imm8 (d : Rm8) (imm : Byte) (s : State) : Host.Outcome State Fault Refusal :=
  finish (s.shift8 .sar d imm)

/-- `ROL r/m16, imm8`, C1 /0 (42_logic R230). -/
def execRolRm16Imm8 (d : Rm16) (imm : Byte) (s : State) : Host.Outcome State Fault Refusal :=
  finish (s.shift16 .rol d imm)

/-- `ROR r/m16, imm8`, C1 /1 (42_logic R231). -/
def execRorRm16Imm8 (d : Rm16) (imm : Byte) (s : State) : Host.Outcome State Fault Refusal :=
  finish (s.shift16 .ror d imm)

/-- `RCL r/m16, imm8`, C1 /2 (42_logic R232). -/
def execRclRm16Imm8 (d : Rm16) (imm : Byte) (s : State) : Host.Outcome State Fault Refusal :=
  finish (s.shift16 .rcl d imm)

/-- `RCR r/m16, imm8`, C1 /3 (42_logic R233). -/
def execRcrRm16Imm8 (d : Rm16) (imm : Byte) (s : State) : Host.Outcome State Fault Refusal :=
  finish (s.shift16 .rcr d imm)

/-- `SHL r/m16, imm8`, C1 /4 (42_logic R227). -/
def execShlRm16Imm8 (d : Rm16) (imm : Byte) (s : State) : Host.Outcome State Fault Refusal :=
  finish (s.shift16 .shl d imm)

/-- `SHR r/m16, imm8`, C1 /5 (42_logic R228). -/
def execShrRm16Imm8 (d : Rm16) (imm : Byte) (s : State) : Host.Outcome State Fault Refusal :=
  finish (s.shift16 .shr d imm)

/-- `SAR r/m16, imm8`, C1 /7 (42_logic R229). -/
def execSarRm16Imm8 (d : Rm16) (imm : Byte) (s : State) : Host.Outcome State Fault Refusal :=
  finish (s.shift16 .sar d imm)

/-- `ROL r/m8, 1`, D0 /0 (42_logic R230). -/
def execRolRm8One (d : Rm8) (s : State) : Host.Outcome State Fault Refusal :=
  finish (s.shift8 .rol d 1)

/-- `ROR r/m8, 1`, D0 /1 (42_logic R231). -/
def execRorRm8One (d : Rm8) (s : State) : Host.Outcome State Fault Refusal :=
  finish (s.shift8 .ror d 1)

/-- `RCL r/m8, 1`, D0 /2 (42_logic R232). -/
def execRclRm8One (d : Rm8) (s : State) : Host.Outcome State Fault Refusal :=
  finish (s.shift8 .rcl d 1)

/-- `RCR r/m8, 1`, D0 /3 (42_logic R233). -/
def execRcrRm8One (d : Rm8) (s : State) : Host.Outcome State Fault Refusal :=
  finish (s.shift8 .rcr d 1)

/-- `SHL r/m8, 1`, D0 /4 (42_logic R227). -/
def execShlRm8One (d : Rm8) (s : State) : Host.Outcome State Fault Refusal :=
  finish (s.shift8 .shl d 1)

/-- `SHR r/m8, 1`, D0 /5 (42_logic R228). -/
def execShrRm8One (d : Rm8) (s : State) : Host.Outcome State Fault Refusal :=
  finish (s.shift8 .shr d 1)

/-- `SAR r/m8, 1`, D0 /7 (42_logic R229). -/
def execSarRm8One (d : Rm8) (s : State) : Host.Outcome State Fault Refusal :=
  finish (s.shift8 .sar d 1)

/-- `ROL r/m16, 1`, D1 /0 (42_logic R230). -/
def execRolRm16One (d : Rm16) (s : State) : Host.Outcome State Fault Refusal :=
  finish (s.shift16 .rol d 1)

/-- `ROR r/m16, 1`, D1 /1 (42_logic R231). -/
def execRorRm16One (d : Rm16) (s : State) : Host.Outcome State Fault Refusal :=
  finish (s.shift16 .ror d 1)

/-- `RCL r/m16, 1`, D1 /2 (42_logic R232). -/
def execRclRm16One (d : Rm16) (s : State) : Host.Outcome State Fault Refusal :=
  finish (s.shift16 .rcl d 1)

/-- `RCR r/m16, 1`, D1 /3 (42_logic R233). -/
def execRcrRm16One (d : Rm16) (s : State) : Host.Outcome State Fault Refusal :=
  finish (s.shift16 .rcr d 1)

/-- `SHL r/m16, 1`, D1 /4 (42_logic R227). -/
def execShlRm16One (d : Rm16) (s : State) : Host.Outcome State Fault Refusal :=
  finish (s.shift16 .shl d 1)

/-- `SHR r/m16, 1`, D1 /5 (42_logic R228). -/
def execShrRm16One (d : Rm16) (s : State) : Host.Outcome State Fault Refusal :=
  finish (s.shift16 .shr d 1)

/-- `SAR r/m16, 1`, D1 /7 (42_logic R229). -/
def execSarRm16One (d : Rm16) (s : State) : Host.Outcome State Fault Refusal :=
  finish (s.shift16 .sar d 1)

/-- `ROL r/m8, CL`, D2 /0 (42_logic R230). -/
def execRolRm8Cl (d : Rm8) (s : State) : Host.Outcome State Fault Refusal :=
  finish (s.shift8 .rol d (s.r8 .cl))

/-- `ROR r/m8, CL`, D2 /1 (42_logic R231). -/
def execRorRm8Cl (d : Rm8) (s : State) : Host.Outcome State Fault Refusal :=
  finish (s.shift8 .ror d (s.r8 .cl))

/-- `RCL r/m8, CL`, D2 /2 (42_logic R232). -/
def execRclRm8Cl (d : Rm8) (s : State) : Host.Outcome State Fault Refusal :=
  finish (s.shift8 .rcl d (s.r8 .cl))

/-- `RCR r/m8, CL`, D2 /3 (42_logic R233). -/
def execRcrRm8Cl (d : Rm8) (s : State) : Host.Outcome State Fault Refusal :=
  finish (s.shift8 .rcr d (s.r8 .cl))

/-- `SHL r/m8, CL`, D2 /4 (42_logic R227). -/
def execShlRm8Cl (d : Rm8) (s : State) : Host.Outcome State Fault Refusal :=
  finish (s.shift8 .shl d (s.r8 .cl))

/-- `SHR r/m8, CL`, D2 /5 (42_logic R228). -/
def execShrRm8Cl (d : Rm8) (s : State) : Host.Outcome State Fault Refusal :=
  finish (s.shift8 .shr d (s.r8 .cl))

/-- `SAR r/m8, CL`, D2 /7 (42_logic R229). -/
def execSarRm8Cl (d : Rm8) (s : State) : Host.Outcome State Fault Refusal :=
  finish (s.shift8 .sar d (s.r8 .cl))

/-- `ROL r/m16, CL`, D3 /0 (42_logic R230). -/
def execRolRm16Cl (d : Rm16) (s : State) : Host.Outcome State Fault Refusal :=
  finish (s.shift16 .rol d (s.r8 .cl))

/-- `ROR r/m16, CL`, D3 /1 (42_logic R231). -/
def execRorRm16Cl (d : Rm16) (s : State) : Host.Outcome State Fault Refusal :=
  finish (s.shift16 .ror d (s.r8 .cl))

/-- `RCL r/m16, CL`, D3 /2 (42_logic R232). -/
def execRclRm16Cl (d : Rm16) (s : State) : Host.Outcome State Fault Refusal :=
  finish (s.shift16 .rcl d (s.r8 .cl))

/-- `RCR r/m16, CL`, D3 /3 (42_logic R233). -/
def execRcrRm16Cl (d : Rm16) (s : State) : Host.Outcome State Fault Refusal :=
  finish (s.shift16 .rcr d (s.r8 .cl))

/-- `SHL r/m16, CL`, D3 /4 (42_logic R227). -/
def execShlRm16Cl (d : Rm16) (s : State) : Host.Outcome State Fault Refusal :=
  finish (s.shift16 .shl d (s.r8 .cl))

/-- `SHR r/m16, CL`, D3 /5 (42_logic R228). -/
def execShrRm16Cl (d : Rm16) (s : State) : Host.Outcome State Fault Refusal :=
  finish (s.shift16 .shr d (s.r8 .cl))

/-- `SAR r/m16, CL`, D3 /7 (42_logic R229). -/
def execSarRm16Cl (d : Rm16) (s : State) : Host.Outcome State Fault Refusal :=
  finish (s.shift16 .sar d (s.r8 .cl))

end Sys2Proof.Machine
end

