-- ==== Sys2Proof/Machine/Stack.lean ====
section
/-! DEFINITION. Stack instructions (44_stack R290 to R298). -/

namespace Sys2Proof.Machine

/-- `PUSH r/m16`: the source is read before the push (44_stack R290). -/
def State.pushOperand (s : State) (l : Loc R16) : Except Fault State := do
  let v ← s.get16 l
  s.push16 v

/-- `POP r/m16`: the increment of `SP` comes first, the write after it (44_stack R291). -/
def State.popOperand (s : State) (l : Loc R16) : Except Fault State := do
  let p ← s.pop16
  p.2.put16 l p.1

/-- `POP Sreg` (44_stack R291). -/
def State.popSeg (s : State) (r : SReg) : Except Fault State := do
  let p ← s.pop16
  pure (p.2.setSeg r p.1)

/-- Words pushed one after another. -/
def State.pushList (s : State) : List Word → Except Fault State
  | [] => .ok s
  | v :: vs => do
    let t ← s.push16 v
    t.pushList vs

/-- `PUSHA`: the `SP` slot holds the value of `SP` before the instruction (44_stack R292). -/
def State.pushAll (s : State) : Except Fault State :=
  s.pushList [s.gpr.ax, s.gpr.cx, s.gpr.dx, s.gpr.bx, s.gpr.sp, s.gpr.bp, s.gpr.si, s.gpr.di]

/-- A register popped. -/
def State.popReg (s : State) (r : R16) : Except Fault State := do
  let p ← s.pop16
  pure (p.2.setR16 r p.1)

/-- `POPA`: the saved `SP` is skipped, neither read nor checked (44_stack R293). -/
def State.popAll (s : State) : Except Fault State := do
  let a ← s.popReg .di
  let b ← a.popReg .si
  let c ← b.popReg .bp
  let d ← (c.setR16 .sp (c.gpr.sp + 2)).popReg .bx
  let e ← d.popReg .dx
  let f ← e.popReg .cx
  f.popReg .ax

/-- `POPF` (44_stack R295). -/
def State.popFlags (s : State) : Except Fault State := do
  let p ← s.pop16
  pure (p.2.setFlags (Flags.ofImage p.1))

/-- The copies of enclosing frame pointers that `ENTER` makes (44_stack R296). -/
def State.copyFrames (s : State) : Nat → Except Fault State
  | 0 => .ok s
  | n + 1 => do
    let t := s.setR16 .bp (s.gpr.bp - 2)
    let v ← t.read16 t.sreg.ss t.gpr.bp
    let u ← t.push16 v
    u.copyFrames n

/-- `ENTER imm16, imm8` (44_stack R296). -/
def State.enterFrame (s : State) (size : Word) (imm : Byte) : Except Fault State := do
  let level := (imm &&& 0x1F).toNat
  let a ← s.push16 s.gpr.bp
  let frame := a.gpr.sp
  let b ← if level = 0 then pure a else do
    let c ← a.copyFrames (level - 1)
    c.push16 frame
  let d := b.setR16 .bp frame
  pure (d.setR16 .sp (d.gpr.sp - size))

/-- `LEAVE` (44_stack R297). -/
def State.leaveFrame (s : State) : Except Fault State := (s.setR16 .sp s.gpr.bp).popReg .bp

/-! ## One meaning for each row of the opcode table -/

/-- `PUSH ES`, 06 (44_stack R290). -/
def execPushEs (s : State) : Host.Outcome State Fault Refusal :=
  finish (s.push16 (s.seg .es))

/-- `PUSH CS`, 0E (44_stack R290). -/
def execPushCs (s : State) : Host.Outcome State Fault Refusal :=
  finish (s.push16 (s.seg .cs))

/-- `PUSH SS`, 16 (44_stack R290). -/
def execPushSs (s : State) : Host.Outcome State Fault Refusal :=
  finish (s.push16 (s.seg .ss))

/-- `PUSH DS`, 1E (44_stack R290). -/
def execPushDs (s : State) : Host.Outcome State Fault Refusal :=
  finish (s.push16 (s.seg .ds))

/-- `POP ES`, 07 (44_stack R291). -/
def execPopEs (s : State) : Host.Outcome State Fault Refusal :=
  finish (s.popSeg .es)

/-- `POP SS`, 17 (44_stack R291). -/
def execPopSs (s : State) : Host.Outcome State Fault Refusal :=
  finish (s.popSeg .ss)

/-- `POP DS`, 1F (44_stack R291). -/
def execPopDs (s : State) : Host.Outcome State Fault Refusal :=
  finish (s.popSeg .ds)

/-- `PUSH r16`, 50+i (44_stack R290). -/
def execPushR16 (r : R16) (s : State) : Host.Outcome State Fault Refusal :=
  finish (s.push16 (s.r16 r))

/-- `POP r16`, 58+i (44_stack R291). -/
def execPopR16 (r : R16) (s : State) : Host.Outcome State Fault Refusal :=
  finish (s.popOperand (.reg r))

/-- `PUSHA`, 60 (44_stack R292). -/
def execPusha (s : State) : Host.Outcome State Fault Refusal :=
  finish (s.pushAll)

/-- `POPA`, 61 (44_stack R293). -/
def execPopa (s : State) : Host.Outcome State Fault Refusal :=
  finish (s.popAll)

/-- `PUSH imm16`, 68 (44_stack R290). -/
def execPushImm16 (imm : Word) (s : State) : Host.Outcome State Fault Refusal :=
  finish (s.push16 imm)

/-- `PUSH imm8`, 6A (44_stack R290). -/
def execPushImm8 (imm : Byte) (s : State) : Host.Outcome State Fault Refusal :=
  finish (s.push16 (sext16 imm))

/-- `POP r/m16`, 8F /0 (44_stack R291). -/
def execPopRm16 (d : Rm16) (s : State) : Host.Outcome State Fault Refusal :=
  finish (s.popOperand (s.loc d))

/-- `PUSHF`, 9C (44_stack R294). -/
def execPushf (s : State) : Host.Outcome State Fault Refusal :=
  finish (s.push16 s.flags.image)

/-- `POPF`, 9D (44_stack R295). -/
def execPopf (s : State) : Host.Outcome State Fault Refusal :=
  finish (s.popFlags)

/-- `ENTER imm16, imm8`, C8 (44_stack R296). -/
def execEnterImm16Imm8 (size : Word) (level : Byte) (s : State) : Host.Outcome State Fault Refusal :=
  finish (s.enterFrame size level)

/-- `LEAVE`, C9 (44_stack R297). -/
def execLeave (s : State) : Host.Outcome State Fault Refusal :=
  finish (s.leaveFrame)

/-- `PUSH r/m16`, FF /6 (44_stack R290). -/
def execPushRm16 (d : Rm16) (s : State) : Host.Outcome State Fault Refusal :=
  finish (s.pushOperand (s.loc d))

end Sys2Proof.Machine
end

