-- ==== Sys2Proof/Machine/Strings.lean ====
section
/-! DEFINITION. String instructions and repetition (45_string_flag_misc R310 to R317). `w` is the width in bytes, 1 or 2. -/

namespace Sys2Proof.Machine

/-- `delta`: the width, negative when `DF` is set (45_string_flag_misc R311). -/
def State.delta (s : State) (w : Nat) : Word := if s.flags.DF then -(BitVec.ofNat 16 w) else BitVec.ofNat 16 w

def State.stepSi (s : State) (w : Nat) : State := s.setR16 .si (s.gpr.si + s.delta w)

def State.stepDi (s : State) (w : Nat) : State := s.setR16 .di (s.gpr.di + s.delta w)

/-- The accumulator of a string instruction: `AL` or `AX` (45_string_flag_misc R310). -/
def State.accumulator (s : State) (w : Nat) : BitVec (8 * w) := s.gpr.ax.setWidth (8 * w)

/-- One iteration of `MOVS` (45_string_flag_misc R312). -/
def State.movsIter (s : State) (w : Nat) (seg : SReg) : Except Fault State := do
  let v ← s.memRead (s.seg seg) s.gpr.si w
  let t ← s.memWrite s.sreg.es s.gpr.di w v
  pure ((t.stepSi w).stepDi w)

/-- One iteration of `CMPS`: source minus destination (45_string_flag_misc R313). -/
def State.cmpsIter (s : State) (w : Nat) (seg : SReg) : Except Fault State := do
  let a ← s.readBits (s.seg seg) s.gpr.si w
  let b ← s.readBits s.sreg.es s.gpr.di w
  pure (((s.setStatus (subFlags a b false).2).stepSi w).stepDi w)

/-- One iteration of `SCAS`: accumulator minus memory (45_string_flag_misc R314). -/
def State.scasIter (s : State) (w : Nat) : Except Fault State := do
  let b ← s.readBits s.sreg.es s.gpr.di w
  pure ((s.setStatus (subFlags (s.accumulator w) b false).2).stepDi w)

/-- One iteration of `LODS`; `LODSB` leaves `AH` (45_string_flag_misc R315). -/
def State.lodsIter (s : State) (w : Nat) (seg : SReg) : Except Fault State := do
  let v ← s.memRead (s.seg seg) s.gpr.si w
  let t := if w = 1 then s.setR8 .al (BitVec.ofNat 8 v) else s.setR16 .ax (BitVec.ofNat 16 v)
  pure (t.stepSi w)

/-- One iteration of `STOS` (45_string_flag_misc R316). -/
def State.stosIter (s : State) (w : Nat) : Except Fault State := do
  let t ← s.memWrite s.sreg.es s.gpr.di w (s.accumulator w).toNat
  pure (t.stepDi w)

/-- Whether a compare or scan stops after an iteration: `REPE` at the first inequality, `REPNE` at the first
equality (45_string_flag_misc R317). -/
def stopsOn (r : Rep) (zf : Bool) : Bool :=
  match r with
  | .rep => !zf
  | .repne => zf

/-- The repetition, `n` the count left in `CX`: an iteration, the decrement of `CX`, then the test
(45_string_flag_misc R317). -/
def repLoop (iter : State → Except Fault State) (stop : State → Bool) : Nat → State → Except Fault State
  | 0, s => .ok s
  | n + 1, s => do
    let t ← iter s
    let u := t.setR16 .cx (t.gpr.cx - 1)
    if stop u then pure u else repLoop iter stop n u

/-- A string instruction: one iteration, or with a repeat prefix the loop; `compares` for `CMPS` and `SCAS`
(45_string_flag_misc R310, R317). No iteration writes `CX`, so the count left is `CX` throughout (LOG 15). -/
def State.repeatString (s : State) (rep : Option Rep) (compares : Bool) (iter : State → Except Fault State) :
    Except Fault State :=
  match rep with
  | none => iter s
  | some r => repLoop iter (fun u => compares && stopsOn r u.flags.ZF) s.gpr.cx.toNat s

/-! ## One meaning for each row of the opcode table -/

/-- `MOVSB`, A4 (45_string_flag_misc R312). -/
def execMovsb (seg : SReg) (rep : Option Rep) (s : State) : Host.Outcome State Fault Refusal :=
  finish (s.repeatString rep false (fun t => t.movsIter 1 seg))

/-- `MOVSW`, A5 (45_string_flag_misc R312). -/
def execMovsw (seg : SReg) (rep : Option Rep) (s : State) : Host.Outcome State Fault Refusal :=
  finish (s.repeatString rep false (fun t => t.movsIter 2 seg))

/-- `CMPSB`, A6 (45_string_flag_misc R313). -/
def execCmpsb (seg : SReg) (rep : Option Rep) (s : State) : Host.Outcome State Fault Refusal :=
  finish (s.repeatString rep true (fun t => t.cmpsIter 1 seg))

/-- `CMPSW`, A7 (45_string_flag_misc R313). -/
def execCmpsw (seg : SReg) (rep : Option Rep) (s : State) : Host.Outcome State Fault Refusal :=
  finish (s.repeatString rep true (fun t => t.cmpsIter 2 seg))

/-- `STOSB`, AA (45_string_flag_misc R316). -/
def execStosb (rep : Option Rep) (s : State) : Host.Outcome State Fault Refusal :=
  finish (s.repeatString rep false (fun t => t.stosIter 1))

/-- `STOSW`, AB (45_string_flag_misc R316). -/
def execStosw (rep : Option Rep) (s : State) : Host.Outcome State Fault Refusal :=
  finish (s.repeatString rep false (fun t => t.stosIter 2))

/-- `LODSB`, AC (45_string_flag_misc R315). -/
def execLodsb (seg : SReg) (rep : Option Rep) (s : State) : Host.Outcome State Fault Refusal :=
  finish (s.repeatString rep false (fun t => t.lodsIter 1 seg))

/-- `LODSW`, AD (45_string_flag_misc R315). -/
def execLodsw (seg : SReg) (rep : Option Rep) (s : State) : Host.Outcome State Fault Refusal :=
  finish (s.repeatString rep false (fun t => t.lodsIter 2 seg))

/-- `SCASB`, AE (45_string_flag_misc R314). -/
def execScasb (rep : Option Rep) (s : State) : Host.Outcome State Fault Refusal :=
  finish (s.repeatString rep true (fun t => t.scasIter 1))

/-- `SCASW`, AF (45_string_flag_misc R314). -/
def execScasw (rep : Option Rep) (s : State) : Host.Outcome State Fault Refusal :=
  finish (s.repeatString rep true (fun t => t.scasIter 2))

end Sys2Proof.Machine
end

