-- ==== Sys2Proof/Machine/Numerics.lean ====
section
/-! DEFINITION. Floating-point formats, rounding and operations (46_x87_numerics): exact rational arithmetic, one rounding
to the result format. A rational is a pair of an integer and a positive denominator, not reduced, so that the kernel
evaluates it; `Spec.rat` in Certificates/Slice0/Obligations.lean says what it stands for (LOG 12). -/

namespace Sys2Proof.Machine

/-! ## Exact rationals -/

/-- The rational `num / den`, for `den > 0`. -/
structure Ratio where
  num : Int
  den : Nat
deriving DecidableEq, Repr

/-- `2^k` for an integer `k`. -/
def pow2 (k : Int) : Ratio := if 0 ≤ k then ⟨2 ^ k.toNat, 1⟩ else ⟨1, 2 ^ (-k).toNat⟩

def Ratio.add (x y : Ratio) : Ratio := ⟨x.num * y.den + y.num * x.den, x.den * y.den⟩

def Ratio.mul (x y : Ratio) : Ratio := ⟨x.num * y.num, x.den * y.den⟩

/-- The quotient, for a divisor that is not zero. -/
def Ratio.div (x y : Ratio) : Ratio := ⟨x.num * y.num.sign * y.den, x.den * y.num.natAbs⟩

def Ratio.neg (x : Ratio) : Ratio := ⟨-x.num, x.den⟩

def Ratio.abs (x : Ratio) : Ratio := ⟨x.num.natAbs, x.den⟩

def Ratio.ofInt (i : Int) : Ratio := ⟨i, 1⟩

def Ratio.lt (x y : Ratio) : Bool := decide (x.num * y.den < y.num * x.den)

def Ratio.le (x y : Ratio) : Bool := decide (x.num * y.den ≤ y.num * x.den)

/-- Equality of the rationals, not of the pairs. -/
def Ratio.eq (x y : Ratio) : Bool := decide (x.num * y.den = y.num * x.den)

def Ratio.isZero (x : Ratio) : Bool := decide (x.num = 0)

/-- `x / 2^k`. -/
def Ratio.scale (x : Ratio) (k : Int) : Ratio := x.mul (pow2 (-k))

/-- `floor(x)`. -/
def Ratio.floor (x : Ratio) : Int := x.num.fdiv x.den

/-- `ceil(x)`. -/
def Ratio.ceil (x : Ratio) : Int := -((-x.num).fdiv x.den)

/-- `floor(log2 x)` for `x > 0`. -/
def Ratio.floorLog2 (x : Ratio) : Int :=
  let e : Int := (x.num.natAbs.log2 : Int) - (x.den.log2 : Int)
  if (pow2 e).le x then e else e - 1

/-- `RNE(q)`: the integer nearest to `q`, the even one when `q` is halfway (46_x87_numerics R348). -/
def Ratio.rne (q : Ratio) : Int :=
  let f := q.floor
  let twice := 2 * (q.num - f * q.den)
  if twice < q.den then f
  else if (q.den : Int) < twice then f + 1
  else if f % 2 = 0 then f else f + 1

/-- `RInt(rc, q)` (46_x87_numerics R352). -/
def Ratio.roundTo (rc : BitVec 2) (q : Ratio) : Int :=
  match rc.toNat with
  | 0 => q.rne
  | 1 => q.floor
  | 2 => q.ceil
  | _ => if q.num < 0 then q.ceil else q.floor

/-- The largest `f` below `2^k` with `f * f ≤ v`, bit by bit from the top, for `f` on top of what is found. -/
def isqrtFrom (v : Nat) : Nat → Nat → Nat
  | 0, f => f
  | k + 1, f => if (f + 2 ^ k) * (f + 2 ^ k) ≤ v then isqrtFrom v k (f + 2 ^ k) else isqrtFrom v k f

/-- The integer square root of a number below `2^128`. -/
def isqrt (v : Nat) : Nat := isqrtFrom v 64 0

/-! ## Formats -/

/-- The three formats (46_x87_numerics R341, R343, R344). -/
inductive Fmt where
  | b32 | b64 | x80
deriving DecidableEq, Repr

/-- The precision `p`. -/
def Fmt.p : Fmt → Nat
  | .b32 => 24 | .b64 => 53 | .x80 => 64

/-- `emax`, which is also the exponent bias. -/
def Fmt.emax : Fmt → Int
  | .b32 => 127 | .b64 => 1023 | .x80 => 16383

/-- `emin`. -/
def Fmt.emin (f : Fmt) : Int := 1 - f.emax

/-- The width of the exponent field. -/
def Fmt.ebits : Fmt → Nat
  | .b32 => 8 | .b64 => 11 | .x80 => 15

/-- The classes of an x80 datum, exhaustive and disjoint (46_x87_numerics R342). -/
inductive FClass where
  | zero | denormal | normal | infinity | quietNaN | signalingNaN | unsupported
deriving DecidableEq, Repr

/-- The sign bit (46_x87_numerics R341). -/
def signOf (x : F80) : Bool := x.getLsbD 79

/-- The biased exponent `e`. -/
def expOf (x : F80) : Nat := (x.extractLsb' 64 15).toNat

/-- The significand `sig` with its explicit integer bit. -/
def sigOf (x : F80) : Nat := (x.extractLsb' 0 64).toNat

/-- A datum of its sign, exponent and significand. -/
def mkF80 (s : Bool) (e sig : Nat) : F80 := BitVec.ofBool s ++ BitVec.ofNat 15 e ++ BitVec.ofNat 64 sig

/-- The class of a datum (46_x87_numerics R342). -/
def classOf (x : F80) : FClass :=
  let e := expOf x
  let sig := sigOf x
  if e = 0 then (if sig = 0 then .zero else .denormal)
  else if !x.getLsbD 63 then .unsupported
  else if e < 0x7FFF then .normal
  else if sig = 0x8000000000000000 then .infinity
  else if x.getLsbD 62 then .quietNaN
  else .signalingNaN

def FClass.isNaN : FClass → Bool
  | .quietNaN | .signalingNaN => true
  | .zero | .denormal | .normal | .infinity | .unsupported => false

/-- `val(x)` of a finite datum (46_x87_numerics R342, R346); a denormal's exponent reads as 1. -/
def valOf (x : F80) : Ratio :=
  let m : Int := if signOf x then -(sigOf x : Int) else sigOf x
  (Ratio.ofInt m).mul (pow2 ((max (expOf x) 1 : Nat) - 16446))

/-- A zero of sign `s`. -/
def zeroF (s : Bool) : F80 := mkF80 s 0 0

/-- An infinity of sign `s`. -/
def infF (s : Bool) : F80 := mkF80 s 0x7FFF 0x8000000000000000

/-- The real indefinite (46_x87_numerics R353). -/
def indefinite : F80 := 0xFFFFC000000000000000

/-- `Quiet(x)` (46_x87_numerics R353). -/
def quiet (x : F80) : F80 := x ||| 0x4000000000000000

/-- `Enc_x80(s, |v|)` for a magnitude that x80 represents (46_x87_numerics R346). -/
def encX80 (s : Bool) (v : Ratio) : F80 :=
  if v.isZero then zeroF s
  else if v.lt (pow2 (-16382)) then mkF80 s 0 (v.scale (-16445)).floor.toNat
  else
    let e := v.floorLog2
    mkF80 s (e + 16383).toNat (v.scale (e - 63)).floor.toNat

/-! ## Rounding -/

/-- A rounded magnitude: a number, or an infinity on overflow (46_x87_numerics R348). -/
inductive Rounded where
  | finite (r : Ratio)
  | infinite
deriving DecidableEq, Repr

def inexact : ExcFlags := { ExcFlags.none with PE := true }

def overflowed : ExcFlags := { ExcFlags.none with OE := true, PE := true }

def underflowed : ExcFlags := { ExcFlags.none with UE := true, PE := true }

def invalidOp : ExcFlags := { ExcFlags.none with IE := true }

def denormalOp : ExcFlags := { ExcFlags.none with DE := true }

def zeroDivide : ExcFlags := { ExcFlags.none with ZE := true }

/-- A magnitude rounded to a multiple of `2^k`, to nearest and ties to even. -/
def roundAt (a : Ratio) (k : Int) : Ratio := (Ratio.ofInt (a.scale k).rne).mul (pow2 k)

/-- `Round(fmt, x)` of a magnitude `a > 0`, with the flags it sets (46_x87_numerics R348). -/
def roundMag (fmt : Fmt) (a : Ratio) : Rounded × ExcFlags :=
  let p : Int := fmt.p
  let r0 := roundAt a (a.floorLog2 - p + 1)
  if r0.lt (pow2 fmt.emin) then
    let r := roundAt a (fmt.emin - p + 1)
    (.finite r, if r.eq a then .none else underflowed)
  else if (pow2 (fmt.emax + 1)).le r0 then (.infinite, overflowed)
  else (.finite r0, if r0.eq a then .none else inexact)

/-- A rounded magnitude with its sign, in x80 form; exact (46_x87_numerics R340). -/
def Rounded.toF80 (s : Bool) : Rounded → F80
  | .finite r => encX80 s r
  | .infinite => infF s

/-- `Round` of a non-zero rational, stored in x80 form. -/
def roundF (fmt : Fmt) (s : Bool) (x : Ratio) : F80 × ExcFlags :=
  let r := roundMag fmt x.abs
  (r.1.toF80 s, r.2)

/-! ## Narrow formats -/

/-- The bits of a finite magnitude, a number of `fmt`'s value set (46_x87_numerics R343, R344). -/
def encBits (fmt : Fmt) (s : Bool) (r : Ratio) : Nat :=
  let sb := s.toNat * 2 ^ (fmt.ebits + (fmt.p - 1))
  if r.isZero then sb
  else if r.lt (pow2 fmt.emin) then sb + (r.scale (fmt.emin - fmt.p + 1)).floor.toNat
  else
    let e := r.floorLog2
    sb + (e + fmt.emax).toNat * 2 ^ (fmt.p - 1) + ((r.scale (e - fmt.p + 1)).floor.toNat - 2 ^ (fmt.p - 1))

/-- The bits of an infinity of `fmt`. -/
def infBits (fmt : Fmt) (s : Bool) : Nat :=
  s.toNat * 2 ^ (fmt.ebits + (fmt.p - 1)) + (2 ^ fmt.ebits - 1) * 2 ^ (fmt.p - 1)

/-- The bits of a quiet NaN: the top `p - 1` bits of the fraction (46_x87_numerics R355). -/
def nanBits (fmt : Fmt) (x : F80) : Nat := infBits fmt (signOf x) + sigOf (quiet x) % 2 ^ 63 / 2 ^ (64 - fmt.p)

/-- `Narrow(fmt, a)` for b32 and b64 (46_x87_numerics R378). -/
def narrow (fmt : Fmt) (a : F80) : Nat × ExcFlags :=
  match classOf a with
  | .unsupported => (nanBits fmt indefinite, invalidOp)
  | .quietNaN => (nanBits fmt a, .none)
  | .signalingNaN => (nanBits fmt a, invalidOp)
  | .zero => (encBits fmt (signOf a) ⟨0, 1⟩, .none)
  | .infinity => (infBits fmt (signOf a), .none)
  | .denormal | .normal =>
    match roundMag fmt (valOf a).abs with
    | (.finite r, x) => (encBits fmt (signOf a) r, x)
    | (.infinite, x) => (infBits fmt (signOf a), x)

/-- An operand of an operation: the x80 datum, whether it counts as a denormal operand (46_x87_numerics R362), and the
flags that reading it set (R347). -/
structure Operand where
  x : F80
  denormal : Bool
  exc : ExcFlags
deriving DecidableEq, Repr

/-- An operand from a slot. -/
def Operand.ofSlot (x : F80) : Operand := { x := x, denormal := decide (classOf x = .denormal), exc := .none }

/-- `Widen(fmt, m)` of a b32 or b64 datum, exact; a signaling NaN is quieted and sets `IE` (46_x87_numerics R347).
A b32 or b64 denormal counts as a denormal operand, though its x80 form is normal (R362; LOG 13). -/
def widen (fmt : Fmt) (m : Nat) : Operand :=
  let f := m % 2 ^ (fmt.p - 1)
  let e := m / 2 ^ (fmt.p - 1) % 2 ^ fmt.ebits
  let s := decide (m / 2 ^ (fmt.ebits + (fmt.p - 1)) % 2 = 1)
  if e = 0 then
    { x := encX80 s ((Ratio.ofInt f).mul (pow2 (fmt.emin - fmt.p + 1))), denormal := decide (f ≠ 0), exc := .none }
  else if e = 2 ^ fmt.ebits - 1 then
    if f = 0 then { x := infF s, denormal := false, exc := .none }
    else
      { x := quiet (mkF80 s 0x7FFF (2 ^ 63 + f * 2 ^ (64 - fmt.p)))
        denormal := false
        exc := if f < 2 ^ (fmt.p - 2) then invalidOp else .none }
  else
    { x := encX80 s ((Ratio.ofInt (2 ^ (fmt.p - 1) + f : Nat)).mul (pow2 (e + fmt.emin - fmt.p)))
      denormal := false
      exc := .none }

/-- `IntToX80(k, m)` (46_x87_numerics R347). -/
def intToX80 (i : Int) : F80 := encX80 (decide (i < 0)) (Ratio.ofInt i.natAbs)

/-- An operand from an integer in memory: exact, no flag (46_x87_numerics R345, R347). -/
def Operand.ofInt (i : Int) : Operand := { x := intToX80 i, denormal := false, exc := .none }

/-! ## Operations -/

/-- `NaNResult(a, b)` with at least one NaN operand (46_x87_numerics R354). -/
def nanResult (a b : F80) : F80 × ExcFlags :=
  let na := (classOf a).isNaN
  let nb := (classOf b).isNaN
  let exc := if classOf a = .signalingNaN ∨ classOf b = .signalingNaN then invalidOp else .none
  let pick :=
    if !nb then a
    else if !na then b
    else if sigOf b < sigOf a then a
    else if sigOf a < sigOf b then b
    else if signOf a then b else a
  (quiet pick, exc)

/-- `NaNResult(a)` of a one-operand operation (46_x87_numerics R354). -/
def nanResult1 (a : F80) : F80 × ExcFlags :=
  (quiet a, if classOf a = .signalingNaN then invalidOp else .none)

/-- The flag of a denormal operand (46_x87_numerics R362). -/
def denFlag (a b : Operand) : ExcFlags := if a.denormal || b.denormal then denormalOp else .none

/-- The first checks of a two-operand operation: an unsupported operand, then a NaN (46_x87_numerics R356, R354). -/
def preCheck (a b : Operand) : Option (F80 × ExcFlags) :=
  if classOf a.x = .unsupported ∨ classOf b.x = .unsupported then some (indefinite, invalidOp)
  else if (classOf a.x).isNaN || (classOf b.x).isNaN then some (nanResult a.x b.x)
  else none

/-- The sum of two operands neither unsupported nor NaN, `sb` the sign that the second is taken with
(46_x87_numerics R370, R371; the sign of a zero sum: R349). -/
def addCore (fmt : Fmt) (a b : Operand) (sb : Bool) : F80 × ExcFlags :=
  let sa := signOf a.x
  let va := valOf a.x
  let vb := if sb = signOf b.x then valOf b.x else (valOf b.x).neg
  if classOf a.x = .infinity then
    if classOf b.x = .infinity ∧ sa ≠ sb then (indefinite, invalidOp) else (infF sa, denFlag a b)
  else if classOf b.x = .infinity then (infF sb, denFlag a b)
  else
    let v := va.add vb
    if v.isZero then (zeroF (classOf a.x = .zero ∧ classOf b.x = .zero ∧ sa ∧ sb), denFlag a b)
    else
      let r := roundF fmt (decide (v.num < 0)) v
      (r.1, (denFlag a b).or r.2)

/-- `Add(fmt, a, b)` (46_x87_numerics R370). -/
def fAdd (fmt : Fmt) (a b : Operand) : F80 × ExcFlags :=
  match preCheck a b with
  | some r => r
  | none => addCore fmt a b (signOf b.x)

/-- `Sub(fmt, a, b)` (46_x87_numerics R371). -/
def fSub (fmt : Fmt) (a b : Operand) : F80 × ExcFlags :=
  match preCheck a b with
  | some r => r
  | none => addCore fmt a b (!signOf b.x)

/-- `Mul(fmt, a, b)` (46_x87_numerics R372). -/
def fMul (fmt : Fmt) (a b : Operand) : F80 × ExcFlags :=
  match preCheck a b with
  | some r => r
  | none =>
    let ca := classOf a.x
    let cb := classOf b.x
    let s := xor (signOf a.x) (signOf b.x)
    if (ca = .zero ∧ cb = .infinity) ∨ (ca = .infinity ∧ cb = .zero) then (indefinite, invalidOp)
    else if ca = .infinity ∨ cb = .infinity then (infF s, denFlag a b)
    else if ca = .zero ∨ cb = .zero then (zeroF s, denFlag a b)
    else
      let r := roundF fmt s ((valOf a.x).mul (valOf b.x))
      (r.1, (denFlag a b).or r.2)

/-- `Div(fmt, a, b)`: `a / b` (46_x87_numerics R373). -/
def fDiv (fmt : Fmt) (a b : Operand) : F80 × ExcFlags :=
  match preCheck a b with
  | some r => r
  | none =>
    let ca := classOf a.x
    let cb := classOf b.x
    let s := xor (signOf a.x) (signOf b.x)
    if (ca = .zero ∧ cb = .zero) ∨ (ca = .infinity ∧ cb = .infinity) then (indefinite, invalidOp)
    else if ca = .infinity then (infF s, denFlag a b)
    else if cb = .infinity then (zeroF s, denFlag a b)
    else if ca = .zero then (zeroF s, denFlag a b)
    else if cb = .zero then (infF s, (denFlag a b).or zeroDivide)
    else
      let r := roundF fmt s ((valOf a.x).div (valOf b.x))
      (r.1, (denFlag a b).or r.2)

/-- The square root of a positive rational, rounded once to 64 significant bits from the exact root, and whether it
differs from the exact root (46_x87_numerics R374; LOG 12). -/
def sqrtMag (v : Ratio) : Ratio × Bool :=
  let k := v.floorLog2.fdiv 2 - 63
  let w := v.scale (2 * k)
  let f := isqrt w.floor.toNat
  let half := (Ratio.ofInt ((2 * f + 1) * (2 * f + 1) : Nat)).mul (pow2 (-2))
  let n := if half.lt w then f + 1 else if w.lt half then f else if f % 2 = 0 then f else f + 1
  ((Ratio.ofInt n).mul (pow2 k), !(Ratio.ofInt (n * n : Nat)).eq w)

/-- `Sqrt(a)` (46_x87_numerics R374). -/
def fSqrt (a : Operand) : F80 × ExcFlags :=
  match classOf a.x with
  | .unsupported => (indefinite, invalidOp)
  | .quietNaN | .signalingNaN => nanResult1 a.x
  | .zero => (a.x, .none)
  | .infinity => if signOf a.x then (indefinite, invalidOp) else (a.x, .none)
  | .denormal | .normal =>
    if signOf a.x then (indefinite, invalidOp)
    else
      let r := sqrtMag (valOf a.x)
      (encX80 false r.1, (if a.denormal then denormalOp else .none).or (if r.2 then inexact else .none))

/-- The outcome of a comparison (46_x87_numerics R375). -/
inductive Cmp where
  | gt | lt | eq | un
deriving DecidableEq, Repr

/-- The order of two datums neither NaN nor unsupported; zeros are equal whatever their signs. -/
def cmpOrdered (a b : F80) : Cmp :=
  match classOf a, classOf b with
  | .infinity, .infinity => if signOf a = signOf b then .eq else if signOf a then .lt else .gt
  | .infinity, _ => if signOf a then .lt else .gt
  | _, .infinity => if signOf b then .gt else .lt
  | _, _ =>
    if (valOf a).lt (valOf b) then .lt
    else if (valOf b).lt (valOf a) then .gt
    else .eq

/-- `Compare(a, b)` (46_x87_numerics R375). -/
def fCompare (a b : Operand) : Cmp × ExcFlags :=
  if classOf a.x = .unsupported ∨ classOf b.x = .unsupported ∨ (classOf a.x).isNaN ∨ (classOf b.x).isNaN then
    (.un, invalidOp)
  else (cmpOrdered a.x b.x, denFlag a b)

/-- `RoundToInt(rc, a)` (46_x87_numerics R376). -/
def fRoundToInt (rc : BitVec 2) (a : Operand) : F80 × ExcFlags :=
  match classOf a.x with
  | .unsupported => (indefinite, invalidOp)
  | .quietNaN | .signalingNaN => nanResult1 a.x
  | .zero | .infinity => (a.x, .none)
  | .denormal | .normal =>
    let i := (valOf a.x).roundTo rc
    (encX80 (signOf a.x) (Ratio.ofInt i.natAbs),
      (if a.denormal then denormalOp else .none).or (if (Ratio.ofInt i).eq (valOf a.x) then .none else inexact))

/-- The integer indefinite of width `k`, as a bit pattern (46_x87_numerics R345). -/
def intIndefinite (k : Nat) : Nat := 2 ^ (k - 1)

/-- `ToInteger(k, rc, a)`, a `k`-bit pattern (46_x87_numerics R377). -/
def fToInteger (k : Nat) (rc : BitVec 2) (a : F80) : Nat × ExcFlags :=
  match classOf a with
  | .unsupported | .quietNaN | .signalingNaN | .infinity => (intIndefinite k, invalidOp)
  | .zero | .denormal | .normal =>
    let i := (valOf a).roundTo rc
    if i < -(2 ^ (k - 1)) ∨ 2 ^ (k - 1) - 1 < i then (intIndefinite k, invalidOp)
    else ((i % 2 ^ k).toNat, if (Ratio.ofInt i).eq (valOf a) then .none else inexact)

/-! ## Constants (46_x87_numerics R379) -/

def constOne : F80 := 0x3FFF8000000000000000
def constL2T : F80 := 0x4000D49A784BCD1B8AFE
def constL2E : F80 := 0x3FFFB8AA3B295C17F0BC
def constPi : F80 := 0x4000C90FDAA22168C235
def constLg2 : F80 := 0x3FFD9A209A84FBCFF799
def constLn2 : F80 := 0x3FFEB17217F7D1CF79AC
def constZero : F80 := 0

end Sys2Proof.Machine
end

