-- ==== Sys2Proof/Machine/Fpu.lean ====
section
/-! DEFINITION. The shared operations of the x87 instructions (47_x87_instructions): the ring policy's check, sources,
loads, stores, arithmetic, compares. Under `FPU_RING_POLICY = fault` the check comes before any memory access
(60_exceptions R464). -/

namespace Sys2Proof.Machine

/-- The check of 47_x87_instructions R394: under `fault`, every slot read as a numeric source must be occupied, and the
slot a push would take must be empty; under `wrap` nothing is inspected (R392). Which slots an instruction reads as
numeric sources is LOG 14. -/
def State.fpuCheck (s : State) (reads : List StIdx) (pushes : Bool) : Except Fault Unit :=
  match s.params.ringPolicy with
  | .wrap => .ok ()
  | .fault =>
    if reads.all (fun i => s.fpu.occupied i) && !(pushes && (s.fpu.fr.get (s.fpu.top - 1)).occupied) then .ok ()
    else .error .fpuStack

/-- Where an x87 operand comes from (46_x87_numerics R350). -/
inductive FpSrc where
  | real (fmt : Fmt) (m : Mem)
  | int (k : Nat) (m : Mem)
  | st (i : StIdx)
deriving DecidableEq, Repr

/-- The slots a source reads. -/
def FpSrc.slots : FpSrc → List StIdx
  | .real _ _ | .int _ _ => []
  | .st i => [i]

/-- The result format that an operand's declared width fixes (46_x87_numerics R350). -/
def FpSrc.fmt : FpSrc → Fmt
  | .real f _ => f
  | .int _ _ | .st _ => .x80

/-- The bytes of a real format in memory (46_x87_numerics R341, R343, R344). -/
def Fmt.bytes : Fmt → Nat
  | .b32 => 4 | .b64 => 8 | .x80 => 10

/-- The operand of a source: a real widened, an integer converted, or a slot (47_x87_instructions, section 5). -/
def State.fpSource (s : State) : FpSrc → Except Fault Operand
  | .real f m => (s.memRead (s.sel m) (s.off m) f.bytes).map (widen f)
  | .int k m => (s.memRead (s.sel m) (s.off m) (k / 8)).map (fun v => Operand.ofInt (BitVec.ofNat k v).toInt)
  | .st i => .ok (Operand.ofSlot (s.fpu.st i))

/-- The four arithmetic operations. -/
inductive FpOp where
  | add | sub | mul | div
deriving DecidableEq, Repr

/-- An operation with its result format (46_x87_numerics R370 to R373). -/
def FpOp.eval (op : FpOp) (fmt : Fmt) (a b : Operand) : F80 × ExcFlags :=
  match op with
  | .add => fAdd fmt a b
  | .sub => fSub fmt a b
  | .mul => fMul fmt a b
  | .div => fDiv fmt a b

/-- The same with the operands exchanged for the reversed instructions (47_x87_instructions R421, R430). -/
def FpOp.evalDir (op : FpOp) (reversed : Bool) (fmt : Fmt) (a b : Operand) : F80 × ExcFlags :=
  if reversed then op.eval fmt b a else op.eval fmt a b

/-- Pops `n` times (47_x87_instructions R391). -/
def Fpu.popN (u : Fpu) : Nat → Fpu
  | 0 => u
  | n + 1 => u.pop.popN n

/-- `ST(0) <- op(fmt, ST(0), m)`, or with the operands exchanged (47_x87_instructions R415 to R432). -/
def State.fpArith (s : State) (op : FpOp) (reversed : Bool) (src : FpSrc) : Except Fault State := do
  s.fpuCheck (0 :: src.slots) false
  let b ← s.fpSource src
  let r := op.evalDir reversed src.fmt (.ofSlot (s.fpu.st 0)) b
  pure (s.setFpu ((s.fpu.setSt 0 r.1).raise (b.exc.or r.2)))

/-- `ST(i) <- op(x80, ST(i), ST(0))`, or with the operands exchanged, then the pops
(47_x87_instructions R415 to R431). -/
def State.fpArithTo (s : State) (op : FpOp) (reversed : Bool) (i : StIdx) (pops : Nat) : Except Fault State := do
  s.fpuCheck [i, 0] false
  let r := op.evalDir reversed .x80 (.ofSlot (s.fpu.st i)) (.ofSlot (s.fpu.st 0))
  pure (s.setFpu (((s.fpu.setSt i r.1).raise r.2).popN pops))

/-- The coding of a comparison in the condition bits (47_x87_instructions R433). -/
def Cmp.cond : Cmp → CondBits
  | .gt => { C0 := false, C1 := false, C2 := false, C3 := false }
  | .lt => { C0 := true, C1 := false, C2 := false, C3 := false }
  | .eq => { C0 := false, C1 := false, C2 := false, C3 := true }
  | .un => { C0 := true, C1 := false, C2 := true, C3 := true }

/-- The compare of `ST(0)` with an operand: condition bits and sticky flags, then the pops
(47_x87_instructions R433 to R438). -/
def State.fpCompareWith (s : State) (b : Operand) (pops : Nat) : State :=
  let r := fCompare (.ofSlot (s.fpu.st 0)) b
  s.setFpu (({ s.fpu with cond := r.1.cond }.raise (b.exc.or r.2)).popN pops)

/-- The compare of `ST(0)` with a source. -/
def State.fpCompare (s : State) (src : FpSrc) (pops : Nat) : Except Fault State := do
  s.fpuCheck (0 :: src.slots) false
  let b ← s.fpSource src
  pure (s.fpCompareWith b pops)

/-- `FLD m32`, `FLD m64`, the `FILD` forms: the operand pushed; a b32 or b64 denormal sets `DE`
(47_x87_instructions R400, R403). -/
def State.fpLoad (s : State) (src : FpSrc) : Except Fault State := do
  s.fpuCheck src.slots true
  let b ← s.fpSource src
  pure (s.setFpu ((s.fpu.push b.x).raise (b.exc.or (if b.denormal then denormalOp else .none))))

/-- A value pushed bit for bit, with no flag, once the check passes (47_x87_instructions R401, R402, R404 to R410). -/
def State.fpPush (s : State) (reads : List StIdx) (v : F80) : Except Fault State := do
  s.fpuCheck reads true
  pure (s.setFpu (s.fpu.push v))

/-- `FLD m80` (47_x87_instructions R401). -/
def State.fpLoad80 (s : State) (m : Mem) : Except Fault State := do
  s.fpuCheck [] true
  let v ← s.readBits (s.sel m) (s.off m) 10
  pure (s.setFpu (s.fpu.push v))

/-- A store of `n` bytes made from `ST(0)`, with the flags it sets, then the pops (47_x87_instructions R411 to
R414). -/
def State.fpStore (s : State) (m : Mem) (n : Nat) (r : Nat × ExcFlags) (pops : Nat) : Except Fault State := do
  s.fpuCheck [0] false
  let t ← s.memWrite (s.sel m) (s.off m) n r.1
  pure (t.setFpu ((t.fpu.raise r.2).popN pops))

/-- `FST`, `FSTP` of `m32` or `m64` (47_x87_instructions R411, R412). -/
def State.fpStoreReal (s : State) (fmt : Fmt) (m : Mem) (pops : Nat) : Except Fault State :=
  s.fpStore m fmt.bytes (narrow fmt (s.fpu.st 0)) pops

/-- `FIST`, `FISTP` (47_x87_instructions R413, R414). -/
def State.fpStoreInt (s : State) (k : Nat) (m : Mem) (pops : Nat) : Except Fault State :=
  s.fpStore m (k / 8) (fToInteger k s.fpu.rc (s.fpu.st 0)) pops

/-- `FST ST(i)`, `FSTP ST(i)`: bit for bit, no flag; the destination's tag is not checked
(47_x87_instructions R411, R412, R394). -/
def State.fpStoreSt (s : State) (i : StIdx) (pops : Nat) : Except Fault State := do
  s.fpuCheck [0] false
  pure (s.setFpu ((s.fpu.setSt i (s.fpu.st 0)).popN pops))

/-- `ST(0)` replaced by a function of it, with the flags that sets (47_x87_instructions R441 to R444). -/
def State.fpUnary (s : State) (f : F80 → F80 × ExcFlags) : Except Fault State := do
  s.fpuCheck [0] false
  let r := f (s.fpu.st 0)
  pure (s.setFpu ((s.fpu.setSt 0 r.1).raise r.2))

/-- `FXAM`'s classification, by the first row of the table that applies; the tag is read whatever the policy
(47_x87_instructions R440). -/
def Fpu.examine (u : Fpu) : CondBits :=
  let x := u.st 0
  let c (c3 c2 c0 : Bool) : CondBits := { C0 := c0, C1 := signOf x, C2 := c2, C3 := c3 }
  if !u.occupied 0 then c true false true
  else match classOf x with
    | .unsupported => c false false false
    | .quietNaN | .signalingNaN => c false false true
    | .normal => c false true false
    | .infinity => c false true true
    | .zero => c true false false
    | .denormal => c true true false

end Sys2Proof.Machine
end

