-- ==== Sys2Proof/Machine/X87Arith.lean ====
section
/-! DEFINITION. x87 arithmetic, sign, root and rounding (47_x87_instructions R415 to R432, R441 to R444). -/

namespace Sys2Proof.Machine

/-! ## One meaning for each row of the opcode table -/

/-- `FADD m32real`, D8 /0 (47_x87_instructions R415). -/
def execFaddM32 (m : Mem) (s : State) : Host.Outcome State Fault Refusal :=
  finish (s.fpArith .add false (.real .b32 m))

/-- `FMUL m32real`, D8 /1 (47_x87_instructions R424). -/
def execFmulM32 (m : Mem) (s : State) : Host.Outcome State Fault Refusal :=
  finish (s.fpArith .mul false (.real .b32 m))

/-- `FSUB m32real`, D8 /4 (47_x87_instructions R418). -/
def execFsubM32 (m : Mem) (s : State) : Host.Outcome State Fault Refusal :=
  finish (s.fpArith .sub false (.real .b32 m))

/-- `FSUBR m32real`, D8 /5 (47_x87_instructions R421). -/
def execFsubrM32 (m : Mem) (s : State) : Host.Outcome State Fault Refusal :=
  finish (s.fpArith .sub true (.real .b32 m))

/-- `FDIV m32real`, D8 /6 (47_x87_instructions R427). -/
def execFdivM32 (m : Mem) (s : State) : Host.Outcome State Fault Refusal :=
  finish (s.fpArith .div false (.real .b32 m))

/-- `FDIVR m32real`, D8 /7 (47_x87_instructions R430). -/
def execFdivrM32 (m : Mem) (s : State) : Host.Outcome State Fault Refusal :=
  finish (s.fpArith .div true (.real .b32 m))

/-- `FADD m64real`, DC /0 (47_x87_instructions R415). -/
def execFaddM64 (m : Mem) (s : State) : Host.Outcome State Fault Refusal :=
  finish (s.fpArith .add false (.real .b64 m))

/-- `FMUL m64real`, DC /1 (47_x87_instructions R424). -/
def execFmulM64 (m : Mem) (s : State) : Host.Outcome State Fault Refusal :=
  finish (s.fpArith .mul false (.real .b64 m))

/-- `FSUB m64real`, DC /4 (47_x87_instructions R418). -/
def execFsubM64 (m : Mem) (s : State) : Host.Outcome State Fault Refusal :=
  finish (s.fpArith .sub false (.real .b64 m))

/-- `FSUBR m64real`, DC /5 (47_x87_instructions R421). -/
def execFsubrM64 (m : Mem) (s : State) : Host.Outcome State Fault Refusal :=
  finish (s.fpArith .sub true (.real .b64 m))

/-- `FDIV m64real`, DC /6 (47_x87_instructions R427). -/
def execFdivM64 (m : Mem) (s : State) : Host.Outcome State Fault Refusal :=
  finish (s.fpArith .div false (.real .b64 m))

/-- `FDIVR m64real`, DC /7 (47_x87_instructions R430). -/
def execFdivrM64 (m : Mem) (s : State) : Host.Outcome State Fault Refusal :=
  finish (s.fpArith .div true (.real .b64 m))

/-- `FIADD m32int`, DA /0 (47_x87_instructions R417). -/
def execFiaddM32 (m : Mem) (s : State) : Host.Outcome State Fault Refusal :=
  finish (s.fpArith .add false (.int 32 m))

/-- `FIMUL m32int`, DA /1 (47_x87_instructions R426). -/
def execFimulM32 (m : Mem) (s : State) : Host.Outcome State Fault Refusal :=
  finish (s.fpArith .mul false (.int 32 m))

/-- `FISUB m32int`, DA /4 (47_x87_instructions R420). -/
def execFisubM32 (m : Mem) (s : State) : Host.Outcome State Fault Refusal :=
  finish (s.fpArith .sub false (.int 32 m))

/-- `FISUBR m32int`, DA /5 (47_x87_instructions R423). -/
def execFisubrM32 (m : Mem) (s : State) : Host.Outcome State Fault Refusal :=
  finish (s.fpArith .sub true (.int 32 m))

/-- `FIDIV m32int`, DA /6 (47_x87_instructions R429). -/
def execFidivM32 (m : Mem) (s : State) : Host.Outcome State Fault Refusal :=
  finish (s.fpArith .div false (.int 32 m))

/-- `FIDIVR m32int`, DA /7 (47_x87_instructions R432). -/
def execFidivrM32 (m : Mem) (s : State) : Host.Outcome State Fault Refusal :=
  finish (s.fpArith .div true (.int 32 m))

/-- `FIADD m16int`, DE /0 (47_x87_instructions R417). -/
def execFiaddM16 (m : Mem) (s : State) : Host.Outcome State Fault Refusal :=
  finish (s.fpArith .add false (.int 16 m))

/-- `FIMUL m16int`, DE /1 (47_x87_instructions R426). -/
def execFimulM16 (m : Mem) (s : State) : Host.Outcome State Fault Refusal :=
  finish (s.fpArith .mul false (.int 16 m))

/-- `FISUB m16int`, DE /4 (47_x87_instructions R420). -/
def execFisubM16 (m : Mem) (s : State) : Host.Outcome State Fault Refusal :=
  finish (s.fpArith .sub false (.int 16 m))

/-- `FISUBR m16int`, DE /5 (47_x87_instructions R423). -/
def execFisubrM16 (m : Mem) (s : State) : Host.Outcome State Fault Refusal :=
  finish (s.fpArith .sub true (.int 16 m))

/-- `FIDIV m16int`, DE /6 (47_x87_instructions R429). -/
def execFidivM16 (m : Mem) (s : State) : Host.Outcome State Fault Refusal :=
  finish (s.fpArith .div false (.int 16 m))

/-- `FIDIVR m16int`, DE /7 (47_x87_instructions R432). -/
def execFidivrM16 (m : Mem) (s : State) : Host.Outcome State Fault Refusal :=
  finish (s.fpArith .div true (.int 16 m))

/-- `FADD ST, ST(i)`, D8 C0+i (47_x87_instructions R415). -/
def execFaddStSti (i : StIdx) (s : State) : Host.Outcome State Fault Refusal :=
  finish (s.fpArith .add false (.st i))

/-- `FMUL ST, ST(i)`, D8 C8+i (47_x87_instructions R424). -/
def execFmulStSti (i : StIdx) (s : State) : Host.Outcome State Fault Refusal :=
  finish (s.fpArith .mul false (.st i))

/-- `FSUB ST, ST(i)`, D8 E0+i (47_x87_instructions R418). -/
def execFsubStSti (i : StIdx) (s : State) : Host.Outcome State Fault Refusal :=
  finish (s.fpArith .sub false (.st i))

/-- `FSUBR ST, ST(i)`, D8 E8+i (47_x87_instructions R421). -/
def execFsubrStSti (i : StIdx) (s : State) : Host.Outcome State Fault Refusal :=
  finish (s.fpArith .sub true (.st i))

/-- `FDIV ST, ST(i)`, D8 F0+i (47_x87_instructions R427). -/
def execFdivStSti (i : StIdx) (s : State) : Host.Outcome State Fault Refusal :=
  finish (s.fpArith .div false (.st i))

/-- `FDIVR ST, ST(i)`, D8 F8+i (47_x87_instructions R430). -/
def execFdivrStSti (i : StIdx) (s : State) : Host.Outcome State Fault Refusal :=
  finish (s.fpArith .div true (.st i))

/-- `FCHS`, D9 E0 (47_x87_instructions R441). -/
def execFchs (s : State) : Host.Outcome State Fault Refusal :=
  finish (s.fpUnary (fun x => (x ^^^ 0x80000000000000000000, .none)))

/-- `FABS`, D9 E1 (47_x87_instructions R442). -/
def execFabs (s : State) : Host.Outcome State Fault Refusal :=
  finish (s.fpUnary (fun x => (x &&& 0x7FFFFFFFFFFFFFFFFFFF, .none)))

/-- `FSQRT`, D9 FA (47_x87_instructions R443). -/
def execFsqrt (s : State) : Host.Outcome State Fault Refusal :=
  finish (s.fpUnary (fun x => fSqrt (.ofSlot x)))

/-- `FRNDINT`, D9 FC (47_x87_instructions R444). -/
def execFrndint (s : State) : Host.Outcome State Fault Refusal :=
  finish (s.fpUnary (fun x => fRoundToInt s.fpu.rc (.ofSlot x)))

/-- `FADD ST(i), ST`, DC C0+i (47_x87_instructions R415). -/
def execFaddStiSt (i : StIdx) (s : State) : Host.Outcome State Fault Refusal :=
  finish (s.fpArithTo .add false i 0)

/-- `FMUL ST(i), ST`, DC C8+i (47_x87_instructions R424). -/
def execFmulStiSt (i : StIdx) (s : State) : Host.Outcome State Fault Refusal :=
  finish (s.fpArithTo .mul false i 0)

/-- `FSUBR ST(i), ST`, DC E0+i (47_x87_instructions R421). -/
def execFsubrStiSt (i : StIdx) (s : State) : Host.Outcome State Fault Refusal :=
  finish (s.fpArithTo .sub true i 0)

/-- `FSUB ST(i), ST`, DC E8+i (47_x87_instructions R418). -/
def execFsubStiSt (i : StIdx) (s : State) : Host.Outcome State Fault Refusal :=
  finish (s.fpArithTo .sub false i 0)

/-- `FDIVR ST(i), ST`, DC F0+i (47_x87_instructions R430). -/
def execFdivrStiSt (i : StIdx) (s : State) : Host.Outcome State Fault Refusal :=
  finish (s.fpArithTo .div true i 0)

/-- `FDIV ST(i), ST`, DC F8+i (47_x87_instructions R427). -/
def execFdivStiSt (i : StIdx) (s : State) : Host.Outcome State Fault Refusal :=
  finish (s.fpArithTo .div false i 0)

/-- `FADDP ST(i), ST`, DE C0+i (47_x87_instructions R416). -/
def execFaddpStiSt (i : StIdx) (s : State) : Host.Outcome State Fault Refusal :=
  finish (s.fpArithTo .add false i 1)

/-- `FMULP ST(i), ST`, DE C8+i (47_x87_instructions R425). -/
def execFmulpStiSt (i : StIdx) (s : State) : Host.Outcome State Fault Refusal :=
  finish (s.fpArithTo .mul false i 1)

/-- `FSUBRP ST(i), ST`, DE E0+i (47_x87_instructions R422). -/
def execFsubrpStiSt (i : StIdx) (s : State) : Host.Outcome State Fault Refusal :=
  finish (s.fpArithTo .sub true i 1)

/-- `FSUBP ST(i), ST`, DE E8+i (47_x87_instructions R419). -/
def execFsubpStiSt (i : StIdx) (s : State) : Host.Outcome State Fault Refusal :=
  finish (s.fpArithTo .sub false i 1)

/-- `FDIVRP ST(i), ST`, DE F0+i (47_x87_instructions R431). -/
def execFdivrpStiSt (i : StIdx) (s : State) : Host.Outcome State Fault Refusal :=
  finish (s.fpArithTo .div true i 1)

/-- `FDIVP ST(i), ST`, DE F8+i (47_x87_instructions R428). -/
def execFdivpStiSt (i : StIdx) (s : State) : Host.Outcome State Fault Refusal :=
  finish (s.fpArithTo .div false i 1)

end Sys2Proof.Machine
end

