-- ==== Sys2Proof/Machine/X87Compare.lean ====
section
/-! DEFINITION. x87 compare, test and examine (47_x87_instructions R433 to R440). -/

namespace Sys2Proof.Machine

/-- `FTST`: `ST(0)` with `+0.0` (47_x87_instructions R438). -/
def State.fpTest (s : State) : Except Fault State := do
  s.fpuCheck [0] false
  pure (s.fpCompareWith (.ofSlot constZero) 0)

/-! ## One meaning for each row of the opcode table -/

/-- `FCOM m32real`, D8 /2 (47_x87_instructions R433). -/
def execFcomM32 (m : Mem) (s : State) : Host.Outcome State Fault Refusal :=
  finish (s.fpCompare (.real .b32 m) 0)

/-- `FCOMP m32real`, D8 /3 (47_x87_instructions R434). -/
def execFcompM32 (m : Mem) (s : State) : Host.Outcome State Fault Refusal :=
  finish (s.fpCompare (.real .b32 m) 1)

/-- `FCOM m64real`, DC /2 (47_x87_instructions R433). -/
def execFcomM64 (m : Mem) (s : State) : Host.Outcome State Fault Refusal :=
  finish (s.fpCompare (.real .b64 m) 0)

/-- `FCOMP m64real`, DC /3 (47_x87_instructions R434). -/
def execFcompM64 (m : Mem) (s : State) : Host.Outcome State Fault Refusal :=
  finish (s.fpCompare (.real .b64 m) 1)

/-- `FICOM m32int`, DA /2 (47_x87_instructions R436). -/
def execFicomM32 (m : Mem) (s : State) : Host.Outcome State Fault Refusal :=
  finish (s.fpCompare (.int 32 m) 0)

/-- `FICOMP m32int`, DA /3 (47_x87_instructions R437). -/
def execFicompM32 (m : Mem) (s : State) : Host.Outcome State Fault Refusal :=
  finish (s.fpCompare (.int 32 m) 1)

/-- `FICOM m16int`, DE /2 (47_x87_instructions R436). -/
def execFicomM16 (m : Mem) (s : State) : Host.Outcome State Fault Refusal :=
  finish (s.fpCompare (.int 16 m) 0)

/-- `FICOMP m16int`, DE /3 (47_x87_instructions R437). -/
def execFicompM16 (m : Mem) (s : State) : Host.Outcome State Fault Refusal :=
  finish (s.fpCompare (.int 16 m) 1)

/-- `FCOM ST(i)`, D8 D0+i (47_x87_instructions R433). -/
def execFcomSti (i : StIdx) (s : State) : Host.Outcome State Fault Refusal :=
  finish (s.fpCompare (.st i) 0)

/-- `FCOMP ST(i)`, D8 D8+i (47_x87_instructions R434). -/
def execFcompSti (i : StIdx) (s : State) : Host.Outcome State Fault Refusal :=
  finish (s.fpCompare (.st i) 1)

/-- `FTST`, D9 E4 (47_x87_instructions R438). -/
def execFtst (s : State) : Host.Outcome State Fault Refusal :=
  finish (s.fpTest)

/-- `FXAM`, D9 E5 (47_x87_instructions R440). -/
def execFxam (s : State) : Host.Outcome State Fault Refusal :=
  finish (.ok (s.setFpu { s.fpu with cond := s.fpu.examine }))

/-- `FCOMPP`, DE D9 (47_x87_instructions R435). -/
def execFcompp (s : State) : Host.Outcome State Fault Refusal :=
  finish (s.fpCompare (.st 1) 2)

end Sys2Proof.Machine
end

