-- ==== Sys2Proof/Machine/X87Control.lean ====
section
/-! DEFINITION. x87 control (47_x87_instructions R446 to R455). -/

namespace Sys2Proof.Machine

/-- `FNINIT`: the slot values are kept (47_x87_instructions R450). -/
def Fpu.init (u : Fpu) : Fpu where
  fr := u.fr.emptyAll
  top := 0
  cw := 0x037F
  cond := { C0 := false, C1 := false, C2 := false, C3 := false }
  exc := .none

/-- `FLDCW m16`: all 16 bits stored (47_x87_instructions R452). -/
def State.fpLoadControl (s : State) (m : Mem) : Except Fault State := do
  let v ← s.read16 (s.sel m) (s.off m)
  pure (s.setFpu { s.fpu with cw := v })

/-! ## One meaning for each row of the opcode table -/

/-- `FLDCW m16`, D9 /5 (47_x87_instructions R452). -/
def execFldcwM16 (m : Mem) (s : State) : Host.Outcome State Fault Refusal :=
  finish (s.fpLoadControl m)

/-- `FNSTCW m16`, D9 /7 (47_x87_instructions R453). -/
def execFnstcwM16 (m : Mem) (s : State) : Host.Outcome State Fault Refusal :=
  finish (s.memWrite (s.sel m) (s.off m) 2 s.fpu.cw.toNat)

/-- `FNSTSW m16`, DD /7 (47_x87_instructions R454). -/
def execFnstswM16 (m : Mem) (s : State) : Host.Outcome State Fault Refusal :=
  finish (s.memWrite (s.sel m) (s.off m) 2 s.fpu.statusWord.toNat)

/-- `FNOP`, D9 D0 (47_x87_instructions R446). -/
def execFnop (s : State) : Host.Outcome State Fault Refusal :=
  finish (.ok s)

/-- `FDECSTP`, D9 F6 (47_x87_instructions R448). -/
def execFdecstp (s : State) : Host.Outcome State Fault Refusal :=
  finish (.ok (s.setFpu { s.fpu with top := s.fpu.top - 1 }))

/-- `FINCSTP`, D9 F7 (47_x87_instructions R447). -/
def execFincstp (s : State) : Host.Outcome State Fault Refusal :=
  finish (.ok (s.setFpu { s.fpu with top := s.fpu.top + 1 }))

/-- `FNCLEX`, DB E2 (47_x87_instructions R451). -/
def execFnclex (s : State) : Host.Outcome State Fault Refusal :=
  finish (.ok (s.setFpu { s.fpu with exc := .none }))

/-- `FNINIT`, DB E3 (47_x87_instructions R450). -/
def execFninit (s : State) : Host.Outcome State Fault Refusal :=
  finish (.ok (s.setFpu s.fpu.init))

/-- `FFREE ST(i)`, DD C0+i (47_x87_instructions R449). -/
def execFfreeSti (i : StIdx) (s : State) : Host.Outcome State Fault Refusal :=
  finish (.ok (s.setFpu { s.fpu with fr := s.fpu.fr.setTag (s.fpu.phys i) false }))

/-- `FNSTSW AX`, DF E0 (47_x87_instructions R455). -/
def execFnstswAx (s : State) : Host.Outcome State Fault Refusal :=
  finish (.ok (s.setR16 .ax s.fpu.statusWord))

end Sys2Proof.Machine
end

