-- ==== Sys2Proof/Machine/X87Move.lean ====
section
/-! DEFINITION. x87 loads, stores and exchange (47_x87_instructions R400 to R414, R445). -/

namespace Sys2Proof.Machine

/-- `FXCH ST(i)`: both slots read, both written, both tags occupied (47_x87_instructions R445). -/
def State.fpExchange (s : State) (i : StIdx) : Except Fault State := do
  s.fpuCheck [0, i] false
  pure (s.setFpu ((s.fpu.setSt 0 (s.fpu.st i)).setSt i (s.fpu.st 0)))

/-! ## One meaning for each row of the opcode table -/

/-- `FLD m32real`, D9 /0 (47_x87_instructions R400). -/
def execFldM32 (m : Mem) (s : State) : Host.Outcome State Fault Refusal :=
  finish (s.fpLoad (.real .b32 m))

/-- `FST m32real`, D9 /2 (47_x87_instructions R411). -/
def execFstM32 (m : Mem) (s : State) : Host.Outcome State Fault Refusal :=
  finish (s.fpStoreReal .b32 m 0)

/-- `FSTP m32real`, D9 /3 (47_x87_instructions R412). -/
def execFstpM32 (m : Mem) (s : State) : Host.Outcome State Fault Refusal :=
  finish (s.fpStoreReal .b32 m 1)

/-- `FILD m32int`, DB /0 (47_x87_instructions R403). -/
def execFildM32 (m : Mem) (s : State) : Host.Outcome State Fault Refusal :=
  finish (s.fpLoad (.int 32 m))

/-- `FIST m32int`, DB /2 (47_x87_instructions R413). -/
def execFistM32 (m : Mem) (s : State) : Host.Outcome State Fault Refusal :=
  finish (s.fpStoreInt 32 m 0)

/-- `FISTP m32int`, DB /3 (47_x87_instructions R414). -/
def execFistpM32 (m : Mem) (s : State) : Host.Outcome State Fault Refusal :=
  finish (s.fpStoreInt 32 m 1)

/-- `FLD m80real`, DB /5 (47_x87_instructions R401). -/
def execFldM80 (m : Mem) (s : State) : Host.Outcome State Fault Refusal :=
  finish (s.fpLoad80 m)

/-- `FSTP m80real`, DB /7 (47_x87_instructions R412). -/
def execFstpM80 (m : Mem) (s : State) : Host.Outcome State Fault Refusal :=
  finish (s.fpStore m 10 ((s.fpu.st 0).toNat, .none) 1)

/-- `FLD m64real`, DD /0 (47_x87_instructions R400). -/
def execFldM64 (m : Mem) (s : State) : Host.Outcome State Fault Refusal :=
  finish (s.fpLoad (.real .b64 m))

/-- `FST m64real`, DD /2 (47_x87_instructions R411). -/
def execFstM64 (m : Mem) (s : State) : Host.Outcome State Fault Refusal :=
  finish (s.fpStoreReal .b64 m 0)

/-- `FSTP m64real`, DD /3 (47_x87_instructions R412). -/
def execFstpM64 (m : Mem) (s : State) : Host.Outcome State Fault Refusal :=
  finish (s.fpStoreReal .b64 m 1)

/-- `FILD m16int`, DF /0 (47_x87_instructions R403). -/
def execFildM16 (m : Mem) (s : State) : Host.Outcome State Fault Refusal :=
  finish (s.fpLoad (.int 16 m))

/-- `FIST m16int`, DF /2 (47_x87_instructions R413). -/
def execFistM16 (m : Mem) (s : State) : Host.Outcome State Fault Refusal :=
  finish (s.fpStoreInt 16 m 0)

/-- `FISTP m16int`, DF /3 (47_x87_instructions R414). -/
def execFistpM16 (m : Mem) (s : State) : Host.Outcome State Fault Refusal :=
  finish (s.fpStoreInt 16 m 1)

/-- `FILD m64int`, DF /5 (47_x87_instructions R403). -/
def execFildM64 (m : Mem) (s : State) : Host.Outcome State Fault Refusal :=
  finish (s.fpLoad (.int 64 m))

/-- `FISTP m64int`, DF /7 (47_x87_instructions R414). -/
def execFistpM64 (m : Mem) (s : State) : Host.Outcome State Fault Refusal :=
  finish (s.fpStoreInt 64 m 1)

/-- `FLD ST(i)`, D9 C0+i (47_x87_instructions R402). -/
def execFldSti (i : StIdx) (s : State) : Host.Outcome State Fault Refusal :=
  finish (s.fpPush [i] (s.fpu.st i))

/-- `FXCH ST(i)`, D9 C8+i (47_x87_instructions R445). -/
def execFxchSti (i : StIdx) (s : State) : Host.Outcome State Fault Refusal :=
  finish (s.fpExchange i)

/-- `FLD1`, D9 E8 (47_x87_instructions R404). -/
def execFld1 (s : State) : Host.Outcome State Fault Refusal :=
  finish (s.fpPush [] constOne)

/-- `FLDL2T`, D9 E9 (47_x87_instructions R405). -/
def execFldl2t (s : State) : Host.Outcome State Fault Refusal :=
  finish (s.fpPush [] constL2T)

/-- `FLDL2E`, D9 EA (47_x87_instructions R406). -/
def execFldl2e (s : State) : Host.Outcome State Fault Refusal :=
  finish (s.fpPush [] constL2E)

/-- `FLDPI`, D9 EB (47_x87_instructions R407). -/
def execFldpi (s : State) : Host.Outcome State Fault Refusal :=
  finish (s.fpPush [] constPi)

/-- `FLDLG2`, D9 EC (47_x87_instructions R408). -/
def execFldlg2 (s : State) : Host.Outcome State Fault Refusal :=
  finish (s.fpPush [] constLg2)

/-- `FLDLN2`, D9 ED (47_x87_instructions R409). -/
def execFldln2 (s : State) : Host.Outcome State Fault Refusal :=
  finish (s.fpPush [] constLn2)

/-- `FLDZ`, D9 EE (47_x87_instructions R410). -/
def execFldz (s : State) : Host.Outcome State Fault Refusal :=
  finish (s.fpPush [] constZero)

/-- `FST ST(i)`, DD D0+i (47_x87_instructions R411). -/
def execFstSti (i : StIdx) (s : State) : Host.Outcome State Fault Refusal :=
  finish (s.fpStoreSt i 0)

/-- `FSTP ST(i)`, DD D8+i (47_x87_instructions R412). -/
def execFstpSti (i : StIdx) (s : State) : Host.Outcome State Fault Refusal :=
  finish (s.fpStoreSt i 1)

end Sys2Proof.Machine
end

