-- ==== Sys2Proof/Machine/Prefix.lean ====
section
/-! DEFINITION. The seven prefix rows. A segment override acts through the operand's segment register and a repeat prefix
through the string instruction's `rep` field, both set by the decoder (30_encoding R122, R123); `LOCK` has no effect
(45_string_flag_misc R332). So a prefixed instruction does what the instruction it wraps does (LOG 1). -/

namespace Sys2Proof.Machine

/-- What an instruction does under its prefixes: the meaning of the body, one arm for each row. -/
def execPrefixed (i : Instr) (s : State) : Host.Outcome State Fault Refusal :=
  match i with
  | .addRm8R8 d r => execAddRm8R8 d r s
  | .addRm16R16 d r => execAddRm16R16 d r s
  | .addR8Rm8 r x => execAddR8Rm8 r x s
  | .addR16Rm16 r x => execAddR16Rm16 r x s
  | .addAlImm8 imm => execAddAlImm8 imm s
  | .addAxImm16 imm => execAddAxImm16 imm s
  | .orRm8R8 d r => execOrRm8R8 d r s
  | .orRm16R16 d r => execOrRm16R16 d r s
  | .orR8Rm8 r x => execOrR8Rm8 r x s
  | .orR16Rm16 r x => execOrR16Rm16 r x s
  | .orAlImm8 imm => execOrAlImm8 imm s
  | .orAxImm16 imm => execOrAxImm16 imm s
  | .adcRm8R8 d r => execAdcRm8R8 d r s
  | .adcRm16R16 d r => execAdcRm16R16 d r s
  | .adcR8Rm8 r x => execAdcR8Rm8 r x s
  | .adcR16Rm16 r x => execAdcR16Rm16 r x s
  | .adcAlImm8 imm => execAdcAlImm8 imm s
  | .adcAxImm16 imm => execAdcAxImm16 imm s
  | .sbbRm8R8 d r => execSbbRm8R8 d r s
  | .sbbRm16R16 d r => execSbbRm16R16 d r s
  | .sbbR8Rm8 r x => execSbbR8Rm8 r x s
  | .sbbR16Rm16 r x => execSbbR16Rm16 r x s
  | .sbbAlImm8 imm => execSbbAlImm8 imm s
  | .sbbAxImm16 imm => execSbbAxImm16 imm s
  | .andRm8R8 d r => execAndRm8R8 d r s
  | .andRm16R16 d r => execAndRm16R16 d r s
  | .andR8Rm8 r x => execAndR8Rm8 r x s
  | .andR16Rm16 r x => execAndR16Rm16 r x s
  | .andAlImm8 imm => execAndAlImm8 imm s
  | .andAxImm16 imm => execAndAxImm16 imm s
  | .subRm8R8 d r => execSubRm8R8 d r s
  | .subRm16R16 d r => execSubRm16R16 d r s
  | .subR8Rm8 r x => execSubR8Rm8 r x s
  | .subR16Rm16 r x => execSubR16Rm16 r x s
  | .subAlImm8 imm => execSubAlImm8 imm s
  | .subAxImm16 imm => execSubAxImm16 imm s
  | .xorRm8R8 d r => execXorRm8R8 d r s
  | .xorRm16R16 d r => execXorRm16R16 d r s
  | .xorR8Rm8 r x => execXorR8Rm8 r x s
  | .xorR16Rm16 r x => execXorR16Rm16 r x s
  | .xorAlImm8 imm => execXorAlImm8 imm s
  | .xorAxImm16 imm => execXorAxImm16 imm s
  | .cmpRm8R8 d r => execCmpRm8R8 d r s
  | .cmpRm16R16 d r => execCmpRm16R16 d r s
  | .cmpR8Rm8 r x => execCmpR8Rm8 r x s
  | .cmpR16Rm16 r x => execCmpR16Rm16 r x s
  | .cmpAlImm8 imm => execCmpAlImm8 imm s
  | .cmpAxImm16 imm => execCmpAxImm16 imm s
  | .pushEs => execPushEs s
  | .pushCs => execPushCs s
  | .pushSs => execPushSs s
  | .pushDs => execPushDs s
  | .popEs => execPopEs s
  | .popSs => execPopSs s
  | .popDs => execPopDs s
  | .esPrefix i => execPrefixed i s
  | .csPrefix i => execPrefixed i s
  | .ssPrefix i => execPrefixed i s
  | .dsPrefix i => execPrefixed i s
  | .incR16 r => execIncR16 r s
  | .decR16 r => execDecR16 r s
  | .pushR16 r => execPushR16 r s
  | .popR16 r => execPopR16 r s
  | .pusha => execPusha s
  | .popa => execPopa s
  | .boundR16M1616 r m => execBoundR16M1616 r m s
  | .pushImm16 imm => execPushImm16 imm s
  | .imulR16Rm16Imm16 r x imm => execImulR16Rm16Imm16 r x imm s
  | .pushImm8 imm => execPushImm8 imm s
  | .imulR16Rm16Imm8 r x imm => execImulR16Rm16Imm8 r x imm s
  | .joRel8 rel => execJoRel8 rel s
  | .jnoRel8 rel => execJnoRel8 rel s
  | .jbRel8 rel => execJbRel8 rel s
  | .jnbRel8 rel => execJnbRel8 rel s
  | .jzRel8 rel => execJzRel8 rel s
  | .jnzRel8 rel => execJnzRel8 rel s
  | .jbeRel8 rel => execJbeRel8 rel s
  | .jnbeRel8 rel => execJnbeRel8 rel s
  | .jsRel8 rel => execJsRel8 rel s
  | .jnsRel8 rel => execJnsRel8 rel s
  | .jpRel8 rel => execJpRel8 rel s
  | .jnpRel8 rel => execJnpRel8 rel s
  | .jlRel8 rel => execJlRel8 rel s
  | .jnlRel8 rel => execJnlRel8 rel s
  | .jleRel8 rel => execJleRel8 rel s
  | .jnleRel8 rel => execJnleRel8 rel s
  | .addRm8Imm8 d imm => execAddRm8Imm8 d imm s
  | .orRm8Imm8 d imm => execOrRm8Imm8 d imm s
  | .adcRm8Imm8 d imm => execAdcRm8Imm8 d imm s
  | .sbbRm8Imm8 d imm => execSbbRm8Imm8 d imm s
  | .andRm8Imm8 d imm => execAndRm8Imm8 d imm s
  | .subRm8Imm8 d imm => execSubRm8Imm8 d imm s
  | .xorRm8Imm8 d imm => execXorRm8Imm8 d imm s
  | .cmpRm8Imm8 d imm => execCmpRm8Imm8 d imm s
  | .addRm16Imm16 d imm => execAddRm16Imm16 d imm s
  | .orRm16Imm16 d imm => execOrRm16Imm16 d imm s
  | .adcRm16Imm16 d imm => execAdcRm16Imm16 d imm s
  | .sbbRm16Imm16 d imm => execSbbRm16Imm16 d imm s
  | .andRm16Imm16 d imm => execAndRm16Imm16 d imm s
  | .subRm16Imm16 d imm => execSubRm16Imm16 d imm s
  | .xorRm16Imm16 d imm => execXorRm16Imm16 d imm s
  | .cmpRm16Imm16 d imm => execCmpRm16Imm16 d imm s
  | .addRm16Imm8 d imm => execAddRm16Imm8 d imm s
  | .orRm16Imm8 d imm => execOrRm16Imm8 d imm s
  | .adcRm16Imm8 d imm => execAdcRm16Imm8 d imm s
  | .sbbRm16Imm8 d imm => execSbbRm16Imm8 d imm s
  | .andRm16Imm8 d imm => execAndRm16Imm8 d imm s
  | .subRm16Imm8 d imm => execSubRm16Imm8 d imm s
  | .xorRm16Imm8 d imm => execXorRm16Imm8 d imm s
  | .cmpRm16Imm8 d imm => execCmpRm16Imm8 d imm s
  | .testRm8R8 d r => execTestRm8R8 d r s
  | .testRm16R16 d r => execTestRm16R16 d r s
  | .xchgR8Rm8 r x => execXchgR8Rm8 r x s
  | .xchgR16Rm16 r x => execXchgR16Rm16 r x s
  | .movRm8R8 d r => execMovRm8R8 d r s
  | .movRm16R16 d r => execMovRm16R16 d r s
  | .movR8Rm8 r x => execMovR8Rm8 r x s
  | .movR16Rm16 r x => execMovR16Rm16 r x s
  | .movRm16Es d => execMovRm16Es d s
  | .movRm16Cs d => execMovRm16Cs d s
  | .movRm16Ss d => execMovRm16Ss d s
  | .movRm16Ds d => execMovRm16Ds d s
  | .leaR16M r m => execLeaR16M r m s
  | .movEsRm16 d => execMovEsRm16 d s
  | .movSsRm16 d => execMovSsRm16 d s
  | .movDsRm16 d => execMovDsRm16 d s
  | .popRm16 d => execPopRm16 d s
  | .nop => execNop s
  | .xchgAxCx => execXchgAxCx s
  | .xchgAxDx => execXchgAxDx s
  | .xchgAxBx => execXchgAxBx s
  | .xchgAxSp => execXchgAxSp s
  | .xchgAxBp => execXchgAxBp s
  | .xchgAxSi => execXchgAxSi s
  | .xchgAxDi => execXchgAxDi s
  | .cbw => execCbw s
  | .cwd => execCwd s
  | .callPtr1616 off sel => execCallPtr1616 off sel s
  | .wait => execWait s
  | .pushf => execPushf s
  | .popf => execPopf s
  | .sahf => execSahf s
  | .lahf => execLahf s
  | .movAlMoffs8 seg off => execMovAlMoffs8 seg off s
  | .movAxMoffs16 seg off => execMovAxMoffs16 seg off s
  | .movMoffs8Al seg off => execMovMoffs8Al seg off s
  | .movMoffs16Ax seg off => execMovMoffs16Ax seg off s
  | .movsb seg rep => execMovsb seg rep s
  | .movsw seg rep => execMovsw seg rep s
  | .cmpsb seg rep => execCmpsb seg rep s
  | .cmpsw seg rep => execCmpsw seg rep s
  | .testAlImm8 imm => execTestAlImm8 imm s
  | .testAxImm16 imm => execTestAxImm16 imm s
  | .stosb rep => execStosb rep s
  | .stosw rep => execStosw rep s
  | .lodsb seg rep => execLodsb seg rep s
  | .lodsw seg rep => execLodsw seg rep s
  | .scasb rep => execScasb rep s
  | .scasw rep => execScasw rep s
  | .movR8Imm8 r imm => execMovR8Imm8 r imm s
  | .movR16Imm16 r imm => execMovR16Imm16 r imm s
  | .rolRm8Imm8 d imm => execRolRm8Imm8 d imm s
  | .rorRm8Imm8 d imm => execRorRm8Imm8 d imm s
  | .rclRm8Imm8 d imm => execRclRm8Imm8 d imm s
  | .rcrRm8Imm8 d imm => execRcrRm8Imm8 d imm s
  | .shlRm8Imm8 d imm => execShlRm8Imm8 d imm s
  | .shrRm8Imm8 d imm => execShrRm8Imm8 d imm s
  | .sarRm8Imm8 d imm => execSarRm8Imm8 d imm s
  | .rolRm16Imm8 d imm => execRolRm16Imm8 d imm s
  | .rorRm16Imm8 d imm => execRorRm16Imm8 d imm s
  | .rclRm16Imm8 d imm => execRclRm16Imm8 d imm s
  | .rcrRm16Imm8 d imm => execRcrRm16Imm8 d imm s
  | .shlRm16Imm8 d imm => execShlRm16Imm8 d imm s
  | .shrRm16Imm8 d imm => execShrRm16Imm8 d imm s
  | .sarRm16Imm8 d imm => execSarRm16Imm8 d imm s
  | .rolRm8One d => execRolRm8One d s
  | .rorRm8One d => execRorRm8One d s
  | .rclRm8One d => execRclRm8One d s
  | .rcrRm8One d => execRcrRm8One d s
  | .shlRm8One d => execShlRm8One d s
  | .shrRm8One d => execShrRm8One d s
  | .sarRm8One d => execSarRm8One d s
  | .rolRm16One d => execRolRm16One d s
  | .rorRm16One d => execRorRm16One d s
  | .rclRm16One d => execRclRm16One d s
  | .rcrRm16One d => execRcrRm16One d s
  | .shlRm16One d => execShlRm16One d s
  | .shrRm16One d => execShrRm16One d s
  | .sarRm16One d => execSarRm16One d s
  | .rolRm8Cl d => execRolRm8Cl d s
  | .rorRm8Cl d => execRorRm8Cl d s
  | .rclRm8Cl d => execRclRm8Cl d s
  | .rcrRm8Cl d => execRcrRm8Cl d s
  | .shlRm8Cl d => execShlRm8Cl d s
  | .shrRm8Cl d => execShrRm8Cl d s
  | .sarRm8Cl d => execSarRm8Cl d s
  | .rolRm16Cl d => execRolRm16Cl d s
  | .rorRm16Cl d => execRorRm16Cl d s
  | .rclRm16Cl d => execRclRm16Cl d s
  | .rcrRm16Cl d => execRcrRm16Cl d s
  | .shlRm16Cl d => execShlRm16Cl d s
  | .shrRm16Cl d => execShrRm16Cl d s
  | .sarRm16Cl d => execSarRm16Cl d s
  | .retImm16 imm => execRetImm16 imm s
  | .ret => execRet s
  | .lesR16M1616 r m => execLesR16M1616 r m s
  | .ldsR16M1616 r m => execLdsR16M1616 r m s
  | .movRm8Imm8 d imm => execMovRm8Imm8 d imm s
  | .movRm16Imm16 d imm => execMovRm16Imm16 d imm s
  | .enterImm16Imm8 size level => execEnterImm16Imm8 size level s
  | .leave => execLeave s
  | .retfImm16 imm => execRetfImm16 imm s
  | .retf => execRetf s
  | .int3 => execInt3 s
  | .intImm8 imm => execIntImm8 imm s
  | .into => execInto s
  | .iret => execIret s
  | .xlat seg => execXlat seg s
  | .loopneRel8 rel => execLoopneRel8 rel s
  | .loopeRel8 rel => execLoopeRel8 rel s
  | .loopRel8 rel => execLoopRel8 rel s
  | .jcxzRel8 rel => execJcxzRel8 rel s
  | .callRel16 rel => execCallRel16 rel s
  | .jmpRel16 rel => execJmpRel16 rel s
  | .jmpPtr1616 off sel => execJmpPtr1616 off sel s
  | .jmpRel8 rel => execJmpRel8 rel s
  | .lockPrefix i => execPrefixed i s
  | .repnePrefix i => execPrefixed i s
  | .repPrefix i => execPrefixed i s
  | .hlt => execHlt s
  | .cmc => execCmc s
  | .testRm8Imm8 d imm => execTestRm8Imm8 d imm s
  | .notRm8 d => execNotRm8 d s
  | .negRm8 d => execNegRm8 d s
  | .mulRm8 d => execMulRm8 d s
  | .imulRm8 d => execImulRm8 d s
  | .divRm8 d => execDivRm8 d s
  | .idivRm8 d => execIdivRm8 d s
  | .testRm16Imm16 d imm => execTestRm16Imm16 d imm s
  | .notRm16 d => execNotRm16 d s
  | .negRm16 d => execNegRm16 d s
  | .mulRm16 d => execMulRm16 d s
  | .imulRm16 d => execImulRm16 d s
  | .divRm16 d => execDivRm16 d s
  | .idivRm16 d => execIdivRm16 d s
  | .clc => execClc s
  | .stc => execStc s
  | .cli => execCli s
  | .sti => execSti s
  | .cld => execCld s
  | .std => execStd s
  | .incRm8 d => execIncRm8 d s
  | .decRm8 d => execDecRm8 d s
  | .incRm16 d => execIncRm16 d s
  | .decRm16 d => execDecRm16 d s
  | .callRm16 d => execCallRm16 d s
  | .callM1616 m => execCallM1616 m s
  | .jmpRm16 d => execJmpRm16 d s
  | .jmpM1616 m => execJmpM1616 m s
  | .pushRm16 d => execPushRm16 d s
  | .faddM32 m => execFaddM32 m s
  | .fmulM32 m => execFmulM32 m s
  | .fcomM32 m => execFcomM32 m s
  | .fcompM32 m => execFcompM32 m s
  | .fsubM32 m => execFsubM32 m s
  | .fsubrM32 m => execFsubrM32 m s
  | .fdivM32 m => execFdivM32 m s
  | .fdivrM32 m => execFdivrM32 m s
  | .faddM64 m => execFaddM64 m s
  | .fmulM64 m => execFmulM64 m s
  | .fcomM64 m => execFcomM64 m s
  | .fcompM64 m => execFcompM64 m s
  | .fsubM64 m => execFsubM64 m s
  | .fsubrM64 m => execFsubrM64 m s
  | .fdivM64 m => execFdivM64 m s
  | .fdivrM64 m => execFdivrM64 m s
  | .fiaddM32 m => execFiaddM32 m s
  | .fimulM32 m => execFimulM32 m s
  | .ficomM32 m => execFicomM32 m s
  | .ficompM32 m => execFicompM32 m s
  | .fisubM32 m => execFisubM32 m s
  | .fisubrM32 m => execFisubrM32 m s
  | .fidivM32 m => execFidivM32 m s
  | .fidivrM32 m => execFidivrM32 m s
  | .fiaddM16 m => execFiaddM16 m s
  | .fimulM16 m => execFimulM16 m s
  | .ficomM16 m => execFicomM16 m s
  | .ficompM16 m => execFicompM16 m s
  | .fisubM16 m => execFisubM16 m s
  | .fisubrM16 m => execFisubrM16 m s
  | .fidivM16 m => execFidivM16 m s
  | .fidivrM16 m => execFidivrM16 m s
  | .fldM32 m => execFldM32 m s
  | .fstM32 m => execFstM32 m s
  | .fstpM32 m => execFstpM32 m s
  | .fldcwM16 m => execFldcwM16 m s
  | .fnstcwM16 m => execFnstcwM16 m s
  | .fildM32 m => execFildM32 m s
  | .fistM32 m => execFistM32 m s
  | .fistpM32 m => execFistpM32 m s
  | .fldM80 m => execFldM80 m s
  | .fstpM80 m => execFstpM80 m s
  | .fldM64 m => execFldM64 m s
  | .fstM64 m => execFstM64 m s
  | .fstpM64 m => execFstpM64 m s
  | .fnstswM16 m => execFnstswM16 m s
  | .fildM16 m => execFildM16 m s
  | .fistM16 m => execFistM16 m s
  | .fistpM16 m => execFistpM16 m s
  | .fildM64 m => execFildM64 m s
  | .fistpM64 m => execFistpM64 m s
  | .faddStSti i => execFaddStSti i s
  | .fmulStSti i => execFmulStSti i s
  | .fcomSti i => execFcomSti i s
  | .fcompSti i => execFcompSti i s
  | .fsubStSti i => execFsubStSti i s
  | .fsubrStSti i => execFsubrStSti i s
  | .fdivStSti i => execFdivStSti i s
  | .fdivrStSti i => execFdivrStSti i s
  | .fldSti i => execFldSti i s
  | .fxchSti i => execFxchSti i s
  | .fnop => execFnop s
  | .fchs => execFchs s
  | .fabs => execFabs s
  | .ftst => execFtst s
  | .fxam => execFxam s
  | .fld1 => execFld1 s
  | .fldl2t => execFldl2t s
  | .fldl2e => execFldl2e s
  | .fldpi => execFldpi s
  | .fldlg2 => execFldlg2 s
  | .fldln2 => execFldln2 s
  | .fldz => execFldz s
  | .fdecstp => execFdecstp s
  | .fincstp => execFincstp s
  | .fsqrt => execFsqrt s
  | .frndint => execFrndint s
  | .fnclex => execFnclex s
  | .fninit => execFninit s
  | .faddStiSt i => execFaddStiSt i s
  | .fmulStiSt i => execFmulStiSt i s
  | .fsubrStiSt i => execFsubrStiSt i s
  | .fsubStiSt i => execFsubStiSt i s
  | .fdivrStiSt i => execFdivrStiSt i s
  | .fdivStiSt i => execFdivStiSt i s
  | .ffreeSti i => execFfreeSti i s
  | .fstSti i => execFstSti i s
  | .fstpSti i => execFstpSti i s
  | .faddpStiSt i => execFaddpStiSt i s
  | .fmulpStiSt i => execFmulpStiSt i s
  | .fsubrpStiSt i => execFsubrpStiSt i s
  | .fsubpStiSt i => execFsubpStiSt i s
  | .fdivrpStiSt i => execFdivrpStiSt i s
  | .fdivpStiSt i => execFdivpStiSt i s
  | .fcompp => execFcompp s
  | .fnstswAx => execFnstswAx s

/-! ## One meaning for each prefix row -/

/-- `ES: (segment override prefix)` (30_encoding R123; the operand carries the segment, R131). -/
def execEsPrefix (i : Instr) (s : State) : Host.Outcome State Fault Refusal := execPrefixed i s

/-- `CS: (segment override prefix)` (30_encoding R123; the operand carries the segment, R131). -/
def execCsPrefix (i : Instr) (s : State) : Host.Outcome State Fault Refusal := execPrefixed i s

/-- `SS: (segment override prefix)` (30_encoding R123; the operand carries the segment, R131). -/
def execSsPrefix (i : Instr) (s : State) : Host.Outcome State Fault Refusal := execPrefixed i s

/-- `DS: (segment override prefix)` (30_encoding R123; the operand carries the segment, R131). -/
def execDsPrefix (i : Instr) (s : State) : Host.Outcome State Fault Refusal := execPrefixed i s

/-- `LOCK (prefix)` (30_encoding R123; no effect, 45_string_flag_misc R332). -/
def execLockPrefix (i : Instr) (s : State) : Host.Outcome State Fault Refusal := execPrefixed i s

/-- `REPNE/REPNZ (prefix)` (30_encoding R123; the string instruction carries it, 45_string_flag_misc R317). -/
def execRepnePrefix (i : Instr) (s : State) : Host.Outcome State Fault Refusal := execPrefixed i s

/-- `REP/REPE/REPZ (prefix)` (30_encoding R123; the string instruction carries it, 45_string_flag_misc R317). -/
def execRepPrefix (i : Instr) (s : State) : Host.Outcome State Fault Refusal := execPrefixed i s

end Sys2Proof.Machine
end

