-- ==== Sys2Proof/Machine/Dispatch.lean ====
section
/-! DEFINITION. The dispatcher: one arm for each constructor of `Instr`, each one direct call of its meaning. -/

namespace Sys2Proof.Machine

def exec (i : Instr) (s : State) : Host.Outcome State Fault Refusal :=
  match i with
  | .addRm8R8 d r => Sys2Proof.Machine.execAddRm8R8 d r s
  | .addRm16R16 d r => Sys2Proof.Machine.execAddRm16R16 d r s
  | .addR8Rm8 r x => Sys2Proof.Machine.execAddR8Rm8 r x s
  | .addR16Rm16 r x => Sys2Proof.Machine.execAddR16Rm16 r x s
  | .addAlImm8 imm => Sys2Proof.Machine.execAddAlImm8 imm s
  | .addAxImm16 imm => Sys2Proof.Machine.execAddAxImm16 imm s
  | .orRm8R8 d r => Sys2Proof.Machine.execOrRm8R8 d r s
  | .orRm16R16 d r => Sys2Proof.Machine.execOrRm16R16 d r s
  | .orR8Rm8 r x => Sys2Proof.Machine.execOrR8Rm8 r x s
  | .orR16Rm16 r x => Sys2Proof.Machine.execOrR16Rm16 r x s
  | .orAlImm8 imm => Sys2Proof.Machine.execOrAlImm8 imm s
  | .orAxImm16 imm => Sys2Proof.Machine.execOrAxImm16 imm s
  | .adcRm8R8 d r => Sys2Proof.Machine.execAdcRm8R8 d r s
  | .adcRm16R16 d r => Sys2Proof.Machine.execAdcRm16R16 d r s
  | .adcR8Rm8 r x => Sys2Proof.Machine.execAdcR8Rm8 r x s
  | .adcR16Rm16 r x => Sys2Proof.Machine.execAdcR16Rm16 r x s
  | .adcAlImm8 imm => Sys2Proof.Machine.execAdcAlImm8 imm s
  | .adcAxImm16 imm => Sys2Proof.Machine.execAdcAxImm16 imm s
  | .sbbRm8R8 d r => Sys2Proof.Machine.execSbbRm8R8 d r s
  | .sbbRm16R16 d r => Sys2Proof.Machine.execSbbRm16R16 d r s
  | .sbbR8Rm8 r x => Sys2Proof.Machine.execSbbR8Rm8 r x s
  | .sbbR16Rm16 r x => Sys2Proof.Machine.execSbbR16Rm16 r x s
  | .sbbAlImm8 imm => Sys2Proof.Machine.execSbbAlImm8 imm s
  | .sbbAxImm16 imm => Sys2Proof.Machine.execSbbAxImm16 imm s
  | .andRm8R8 d r => Sys2Proof.Machine.execAndRm8R8 d r s
  | .andRm16R16 d r => Sys2Proof.Machine.execAndRm16R16 d r s
  | .andR8Rm8 r x => Sys2Proof.Machine.execAndR8Rm8 r x s
  | .andR16Rm16 r x => Sys2Proof.Machine.execAndR16Rm16 r x s
  | .andAlImm8 imm => Sys2Proof.Machine.execAndAlImm8 imm s
  | .andAxImm16 imm => Sys2Proof.Machine.execAndAxImm16 imm s
  | .subRm8R8 d r => Sys2Proof.Machine.execSubRm8R8 d r s
  | .subRm16R16 d r => Sys2Proof.Machine.execSubRm16R16 d r s
  | .subR8Rm8 r x => Sys2Proof.Machine.execSubR8Rm8 r x s
  | .subR16Rm16 r x => Sys2Proof.Machine.execSubR16Rm16 r x s
  | .subAlImm8 imm => Sys2Proof.Machine.execSubAlImm8 imm s
  | .subAxImm16 imm => Sys2Proof.Machine.execSubAxImm16 imm s
  | .xorRm8R8 d r => Sys2Proof.Machine.execXorRm8R8 d r s
  | .xorRm16R16 d r => Sys2Proof.Machine.execXorRm16R16 d r s
  | .xorR8Rm8 r x => Sys2Proof.Machine.execXorR8Rm8 r x s
  | .xorR16Rm16 r x => Sys2Proof.Machine.execXorR16Rm16 r x s
  | .xorAlImm8 imm => Sys2Proof.Machine.execXorAlImm8 imm s
  | .xorAxImm16 imm => Sys2Proof.Machine.execXorAxImm16 imm s
  | .cmpRm8R8 d r => Sys2Proof.Machine.execCmpRm8R8 d r s
  | .cmpRm16R16 d r => Sys2Proof.Machine.execCmpRm16R16 d r s
  | .cmpR8Rm8 r x => Sys2Proof.Machine.execCmpR8Rm8 r x s
  | .cmpR16Rm16 r x => Sys2Proof.Machine.execCmpR16Rm16 r x s
  | .cmpAlImm8 imm => Sys2Proof.Machine.execCmpAlImm8 imm s
  | .cmpAxImm16 imm => Sys2Proof.Machine.execCmpAxImm16 imm s
  | .pushEs => Sys2Proof.Machine.execPushEs s
  | .pushCs => Sys2Proof.Machine.execPushCs s
  | .pushSs => Sys2Proof.Machine.execPushSs s
  | .pushDs => Sys2Proof.Machine.execPushDs s
  | .popEs => Sys2Proof.Machine.execPopEs s
  | .popSs => Sys2Proof.Machine.execPopSs s
  | .popDs => Sys2Proof.Machine.execPopDs s
  | .esPrefix j => Sys2Proof.Machine.execEsPrefix j s
  | .csPrefix j => Sys2Proof.Machine.execCsPrefix j s
  | .ssPrefix j => Sys2Proof.Machine.execSsPrefix j s
  | .dsPrefix j => Sys2Proof.Machine.execDsPrefix j s
  | .incR16 r => Sys2Proof.Machine.execIncR16 r s
  | .decR16 r => Sys2Proof.Machine.execDecR16 r s
  | .pushR16 r => Sys2Proof.Machine.execPushR16 r s
  | .popR16 r => Sys2Proof.Machine.execPopR16 r s
  | .pusha => Sys2Proof.Machine.execPusha s
  | .popa => Sys2Proof.Machine.execPopa s
  | .boundR16M1616 r m => Sys2Proof.Machine.execBoundR16M1616 r m s
  | .pushImm16 imm => Sys2Proof.Machine.execPushImm16 imm s
  | .imulR16Rm16Imm16 r x imm => Sys2Proof.Machine.execImulR16Rm16Imm16 r x imm s
  | .pushImm8 imm => Sys2Proof.Machine.execPushImm8 imm s
  | .imulR16Rm16Imm8 r x imm => Sys2Proof.Machine.execImulR16Rm16Imm8 r x imm s
  | .joRel8 rel => Sys2Proof.Machine.execJoRel8 rel s
  | .jnoRel8 rel => Sys2Proof.Machine.execJnoRel8 rel s
  | .jbRel8 rel => Sys2Proof.Machine.execJbRel8 rel s
  | .jnbRel8 rel => Sys2Proof.Machine.execJnbRel8 rel s
  | .jzRel8 rel => Sys2Proof.Machine.execJzRel8 rel s
  | .jnzRel8 rel => Sys2Proof.Machine.execJnzRel8 rel s
  | .jbeRel8 rel => Sys2Proof.Machine.execJbeRel8 rel s
  | .jnbeRel8 rel => Sys2Proof.Machine.execJnbeRel8 rel s
  | .jsRel8 rel => Sys2Proof.Machine.execJsRel8 rel s
  | .jnsRel8 rel => Sys2Proof.Machine.execJnsRel8 rel s
  | .jpRel8 rel => Sys2Proof.Machine.execJpRel8 rel s
  | .jnpRel8 rel => Sys2Proof.Machine.execJnpRel8 rel s
  | .jlRel8 rel => Sys2Proof.Machine.execJlRel8 rel s
  | .jnlRel8 rel => Sys2Proof.Machine.execJnlRel8 rel s
  | .jleRel8 rel => Sys2Proof.Machine.execJleRel8 rel s
  | .jnleRel8 rel => Sys2Proof.Machine.execJnleRel8 rel s
  | .addRm8Imm8 d imm => Sys2Proof.Machine.execAddRm8Imm8 d imm s
  | .orRm8Imm8 d imm => Sys2Proof.Machine.execOrRm8Imm8 d imm s
  | .adcRm8Imm8 d imm => Sys2Proof.Machine.execAdcRm8Imm8 d imm s
  | .sbbRm8Imm8 d imm => Sys2Proof.Machine.execSbbRm8Imm8 d imm s
  | .andRm8Imm8 d imm => Sys2Proof.Machine.execAndRm8Imm8 d imm s
  | .subRm8Imm8 d imm => Sys2Proof.Machine.execSubRm8Imm8 d imm s
  | .xorRm8Imm8 d imm => Sys2Proof.Machine.execXorRm8Imm8 d imm s
  | .cmpRm8Imm8 d imm => Sys2Proof.Machine.execCmpRm8Imm8 d imm s
  | .addRm16Imm16 d imm => Sys2Proof.Machine.execAddRm16Imm16 d imm s
  | .orRm16Imm16 d imm => Sys2Proof.Machine.execOrRm16Imm16 d imm s
  | .adcRm16Imm16 d imm => Sys2Proof.Machine.execAdcRm16Imm16 d imm s
  | .sbbRm16Imm16 d imm => Sys2Proof.Machine.execSbbRm16Imm16 d imm s
  | .andRm16Imm16 d imm => Sys2Proof.Machine.execAndRm16Imm16 d imm s
  | .subRm16Imm16 d imm => Sys2Proof.Machine.execSubRm16Imm16 d imm s
  | .xorRm16Imm16 d imm => Sys2Proof.Machine.execXorRm16Imm16 d imm s
  | .cmpRm16Imm16 d imm => Sys2Proof.Machine.execCmpRm16Imm16 d imm s
  | .addRm16Imm8 d imm => Sys2Proof.Machine.execAddRm16Imm8 d imm s
  | .orRm16Imm8 d imm => Sys2Proof.Machine.execOrRm16Imm8 d imm s
  | .adcRm16Imm8 d imm => Sys2Proof.Machine.execAdcRm16Imm8 d imm s
  | .sbbRm16Imm8 d imm => Sys2Proof.Machine.execSbbRm16Imm8 d imm s
  | .andRm16Imm8 d imm => Sys2Proof.Machine.execAndRm16Imm8 d imm s
  | .subRm16Imm8 d imm => Sys2Proof.Machine.execSubRm16Imm8 d imm s
  | .xorRm16Imm8 d imm => Sys2Proof.Machine.execXorRm16Imm8 d imm s
  | .cmpRm16Imm8 d imm => Sys2Proof.Machine.execCmpRm16Imm8 d imm s
  | .testRm8R8 d r => Sys2Proof.Machine.execTestRm8R8 d r s
  | .testRm16R16 d r => Sys2Proof.Machine.execTestRm16R16 d r s
  | .xchgR8Rm8 r x => Sys2Proof.Machine.execXchgR8Rm8 r x s
  | .xchgR16Rm16 r x => Sys2Proof.Machine.execXchgR16Rm16 r x s
  | .movRm8R8 d r => Sys2Proof.Machine.execMovRm8R8 d r s
  | .movRm16R16 d r => Sys2Proof.Machine.execMovRm16R16 d r s
  | .movR8Rm8 r x => Sys2Proof.Machine.execMovR8Rm8 r x s
  | .movR16Rm16 r x => Sys2Proof.Machine.execMovR16Rm16 r x s
  | .movRm16Es d => Sys2Proof.Machine.execMovRm16Es d s
  | .movRm16Cs d => Sys2Proof.Machine.execMovRm16Cs d s
  | .movRm16Ss d => Sys2Proof.Machine.execMovRm16Ss d s
  | .movRm16Ds d => Sys2Proof.Machine.execMovRm16Ds d s
  | .leaR16M r m => Sys2Proof.Machine.execLeaR16M r m s
  | .movEsRm16 d => Sys2Proof.Machine.execMovEsRm16 d s
  | .movSsRm16 d => Sys2Proof.Machine.execMovSsRm16 d s
  | .movDsRm16 d => Sys2Proof.Machine.execMovDsRm16 d s
  | .popRm16 d => Sys2Proof.Machine.execPopRm16 d s
  | .nop => Sys2Proof.Machine.execNop s
  | .xchgAxCx => Sys2Proof.Machine.execXchgAxCx s
  | .xchgAxDx => Sys2Proof.Machine.execXchgAxDx s
  | .xchgAxBx => Sys2Proof.Machine.execXchgAxBx s
  | .xchgAxSp => Sys2Proof.Machine.execXchgAxSp s
  | .xchgAxBp => Sys2Proof.Machine.execXchgAxBp s
  | .xchgAxSi => Sys2Proof.Machine.execXchgAxSi s
  | .xchgAxDi => Sys2Proof.Machine.execXchgAxDi s
  | .cbw => Sys2Proof.Machine.execCbw s
  | .cwd => Sys2Proof.Machine.execCwd s
  | .callPtr1616 off sel => Sys2Proof.Machine.execCallPtr1616 off sel s
  | .wait => Sys2Proof.Machine.execWait s
  | .pushf => Sys2Proof.Machine.execPushf s
  | .popf => Sys2Proof.Machine.execPopf s
  | .sahf => Sys2Proof.Machine.execSahf s
  | .lahf => Sys2Proof.Machine.execLahf s
  | .movAlMoffs8 seg off => Sys2Proof.Machine.execMovAlMoffs8 seg off s
  | .movAxMoffs16 seg off => Sys2Proof.Machine.execMovAxMoffs16 seg off s
  | .movMoffs8Al seg off => Sys2Proof.Machine.execMovMoffs8Al seg off s
  | .movMoffs16Ax seg off => Sys2Proof.Machine.execMovMoffs16Ax seg off s
  | .movsb seg rep => Sys2Proof.Machine.execMovsb seg rep s
  | .movsw seg rep => Sys2Proof.Machine.execMovsw seg rep s
  | .cmpsb seg rep => Sys2Proof.Machine.execCmpsb seg rep s
  | .cmpsw seg rep => Sys2Proof.Machine.execCmpsw seg rep s
  | .testAlImm8 imm => Sys2Proof.Machine.execTestAlImm8 imm s
  | .testAxImm16 imm => Sys2Proof.Machine.execTestAxImm16 imm s
  | .stosb rep => Sys2Proof.Machine.execStosb rep s
  | .stosw rep => Sys2Proof.Machine.execStosw rep s
  | .lodsb seg rep => Sys2Proof.Machine.execLodsb seg rep s
  | .lodsw seg rep => Sys2Proof.Machine.execLodsw seg rep s
  | .scasb rep => Sys2Proof.Machine.execScasb rep s
  | .scasw rep => Sys2Proof.Machine.execScasw rep s
  | .movR8Imm8 r imm => Sys2Proof.Machine.execMovR8Imm8 r imm s
  | .movR16Imm16 r imm => Sys2Proof.Machine.execMovR16Imm16 r imm s
  | .rolRm8Imm8 d imm => Sys2Proof.Machine.execRolRm8Imm8 d imm s
  | .rorRm8Imm8 d imm => Sys2Proof.Machine.execRorRm8Imm8 d imm s
  | .rclRm8Imm8 d imm => Sys2Proof.Machine.execRclRm8Imm8 d imm s
  | .rcrRm8Imm8 d imm => Sys2Proof.Machine.execRcrRm8Imm8 d imm s
  | .shlRm8Imm8 d imm => Sys2Proof.Machine.execShlRm8Imm8 d imm s
  | .shrRm8Imm8 d imm => Sys2Proof.Machine.execShrRm8Imm8 d imm s
  | .sarRm8Imm8 d imm => Sys2Proof.Machine.execSarRm8Imm8 d imm s
  | .rolRm16Imm8 d imm => Sys2Proof.Machine.execRolRm16Imm8 d imm s
  | .rorRm16Imm8 d imm => Sys2Proof.Machine.execRorRm16Imm8 d imm s
  | .rclRm16Imm8 d imm => Sys2Proof.Machine.execRclRm16Imm8 d imm s
  | .rcrRm16Imm8 d imm => Sys2Proof.Machine.execRcrRm16Imm8 d imm s
  | .shlRm16Imm8 d imm => Sys2Proof.Machine.execShlRm16Imm8 d imm s
  | .shrRm16Imm8 d imm => Sys2Proof.Machine.execShrRm16Imm8 d imm s
  | .sarRm16Imm8 d imm => Sys2Proof.Machine.execSarRm16Imm8 d imm s
  | .rolRm8One d => Sys2Proof.Machine.execRolRm8One d s
  | .rorRm8One d => Sys2Proof.Machine.execRorRm8One d s
  | .rclRm8One d => Sys2Proof.Machine.execRclRm8One d s
  | .rcrRm8One d => Sys2Proof.Machine.execRcrRm8One d s
  | .shlRm8One d => Sys2Proof.Machine.execShlRm8One d s
  | .shrRm8One d => Sys2Proof.Machine.execShrRm8One d s
  | .sarRm8One d => Sys2Proof.Machine.execSarRm8One d s
  | .rolRm16One d => Sys2Proof.Machine.execRolRm16One d s
  | .rorRm16One d => Sys2Proof.Machine.execRorRm16One d s
  | .rclRm16One d => Sys2Proof.Machine.execRclRm16One d s
  | .rcrRm16One d => Sys2Proof.Machine.execRcrRm16One d s
  | .shlRm16One d => Sys2Proof.Machine.execShlRm16One d s
  | .shrRm16One d => Sys2Proof.Machine.execShrRm16One d s
  | .sarRm16One d => Sys2Proof.Machine.execSarRm16One d s
  | .rolRm8Cl d => Sys2Proof.Machine.execRolRm8Cl d s
  | .rorRm8Cl d => Sys2Proof.Machine.execRorRm8Cl d s
  | .rclRm8Cl d => Sys2Proof.Machine.execRclRm8Cl d s
  | .rcrRm8Cl d => Sys2Proof.Machine.execRcrRm8Cl d s
  | .shlRm8Cl d => Sys2Proof.Machine.execShlRm8Cl d s
  | .shrRm8Cl d => Sys2Proof.Machine.execShrRm8Cl d s
  | .sarRm8Cl d => Sys2Proof.Machine.execSarRm8Cl d s
  | .rolRm16Cl d => Sys2Proof.Machine.execRolRm16Cl d s
  | .rorRm16Cl d => Sys2Proof.Machine.execRorRm16Cl d s
  | .rclRm16Cl d => Sys2Proof.Machine.execRclRm16Cl d s
  | .rcrRm16Cl d => Sys2Proof.Machine.execRcrRm16Cl d s
  | .shlRm16Cl d => Sys2Proof.Machine.execShlRm16Cl d s
  | .shrRm16Cl d => Sys2Proof.Machine.execShrRm16Cl d s
  | .sarRm16Cl d => Sys2Proof.Machine.execSarRm16Cl d s
  | .retImm16 imm => Sys2Proof.Machine.execRetImm16 imm s
  | .ret => Sys2Proof.Machine.execRet s
  | .lesR16M1616 r m => Sys2Proof.Machine.execLesR16M1616 r m s
  | .ldsR16M1616 r m => Sys2Proof.Machine.execLdsR16M1616 r m s
  | .movRm8Imm8 d imm => Sys2Proof.Machine.execMovRm8Imm8 d imm s
  | .movRm16Imm16 d imm => Sys2Proof.Machine.execMovRm16Imm16 d imm s
  | .enterImm16Imm8 size level => Sys2Proof.Machine.execEnterImm16Imm8 size level s
  | .leave => Sys2Proof.Machine.execLeave s
  | .retfImm16 imm => Sys2Proof.Machine.execRetfImm16 imm s
  | .retf => Sys2Proof.Machine.execRetf s
  | .int3 => Sys2Proof.Machine.execInt3 s
  | .intImm8 imm => Sys2Proof.Machine.execIntImm8 imm s
  | .into => Sys2Proof.Machine.execInto s
  | .iret => Sys2Proof.Machine.execIret s
  | .xlat seg => Sys2Proof.Machine.execXlat seg s
  | .loopneRel8 rel => Sys2Proof.Machine.execLoopneRel8 rel s
  | .loopeRel8 rel => Sys2Proof.Machine.execLoopeRel8 rel s
  | .loopRel8 rel => Sys2Proof.Machine.execLoopRel8 rel s
  | .jcxzRel8 rel => Sys2Proof.Machine.execJcxzRel8 rel s
  | .callRel16 rel => Sys2Proof.Machine.execCallRel16 rel s
  | .jmpRel16 rel => Sys2Proof.Machine.execJmpRel16 rel s
  | .jmpPtr1616 off sel => Sys2Proof.Machine.execJmpPtr1616 off sel s
  | .jmpRel8 rel => Sys2Proof.Machine.execJmpRel8 rel s
  | .lockPrefix j => Sys2Proof.Machine.execLockPrefix j s
  | .repnePrefix j => Sys2Proof.Machine.execRepnePrefix j s
  | .repPrefix j => Sys2Proof.Machine.execRepPrefix j s
  | .hlt => Sys2Proof.Machine.execHlt s
  | .cmc => Sys2Proof.Machine.execCmc s
  | .testRm8Imm8 d imm => Sys2Proof.Machine.execTestRm8Imm8 d imm s
  | .notRm8 d => Sys2Proof.Machine.execNotRm8 d s
  | .negRm8 d => Sys2Proof.Machine.execNegRm8 d s
  | .mulRm8 d => Sys2Proof.Machine.execMulRm8 d s
  | .imulRm8 d => Sys2Proof.Machine.execImulRm8 d s
  | .divRm8 d => Sys2Proof.Machine.execDivRm8 d s
  | .idivRm8 d => Sys2Proof.Machine.execIdivRm8 d s
  | .testRm16Imm16 d imm => Sys2Proof.Machine.execTestRm16Imm16 d imm s
  | .notRm16 d => Sys2Proof.Machine.execNotRm16 d s
  | .negRm16 d => Sys2Proof.Machine.execNegRm16 d s
  | .mulRm16 d => Sys2Proof.Machine.execMulRm16 d s
  | .imulRm16 d => Sys2Proof.Machine.execImulRm16 d s
  | .divRm16 d => Sys2Proof.Machine.execDivRm16 d s
  | .idivRm16 d => Sys2Proof.Machine.execIdivRm16 d s
  | .clc => Sys2Proof.Machine.execClc s
  | .stc => Sys2Proof.Machine.execStc s
  | .cli => Sys2Proof.Machine.execCli s
  | .sti => Sys2Proof.Machine.execSti s
  | .cld => Sys2Proof.Machine.execCld s
  | .std => Sys2Proof.Machine.execStd s
  | .incRm8 d => Sys2Proof.Machine.execIncRm8 d s
  | .decRm8 d => Sys2Proof.Machine.execDecRm8 d s
  | .incRm16 d => Sys2Proof.Machine.execIncRm16 d s
  | .decRm16 d => Sys2Proof.Machine.execDecRm16 d s
  | .callRm16 d => Sys2Proof.Machine.execCallRm16 d s
  | .callM1616 m => Sys2Proof.Machine.execCallM1616 m s
  | .jmpRm16 d => Sys2Proof.Machine.execJmpRm16 d s
  | .jmpM1616 m => Sys2Proof.Machine.execJmpM1616 m s
  | .pushRm16 d => Sys2Proof.Machine.execPushRm16 d s
  | .faddM32 m => Sys2Proof.Machine.execFaddM32 m s
  | .fmulM32 m => Sys2Proof.Machine.execFmulM32 m s
  | .fcomM32 m => Sys2Proof.Machine.execFcomM32 m s
  | .fcompM32 m => Sys2Proof.Machine.execFcompM32 m s
  | .fsubM32 m => Sys2Proof.Machine.execFsubM32 m s
  | .fsubrM32 m => Sys2Proof.Machine.execFsubrM32 m s
  | .fdivM32 m => Sys2Proof.Machine.execFdivM32 m s
  | .fdivrM32 m => Sys2Proof.Machine.execFdivrM32 m s
  | .faddM64 m => Sys2Proof.Machine.execFaddM64 m s
  | .fmulM64 m => Sys2Proof.Machine.execFmulM64 m s
  | .fcomM64 m => Sys2Proof.Machine.execFcomM64 m s
  | .fcompM64 m => Sys2Proof.Machine.execFcompM64 m s
  | .fsubM64 m => Sys2Proof.Machine.execFsubM64 m s
  | .fsubrM64 m => Sys2Proof.Machine.execFsubrM64 m s
  | .fdivM64 m => Sys2Proof.Machine.execFdivM64 m s
  | .fdivrM64 m => Sys2Proof.Machine.execFdivrM64 m s
  | .fiaddM32 m => Sys2Proof.Machine.execFiaddM32 m s
  | .fimulM32 m => Sys2Proof.Machine.execFimulM32 m s
  | .ficomM32 m => Sys2Proof.Machine.execFicomM32 m s
  | .ficompM32 m => Sys2Proof.Machine.execFicompM32 m s
  | .fisubM32 m => Sys2Proof.Machine.execFisubM32 m s
  | .fisubrM32 m => Sys2Proof.Machine.execFisubrM32 m s
  | .fidivM32 m => Sys2Proof.Machine.execFidivM32 m s
  | .fidivrM32 m => Sys2Proof.Machine.execFidivrM32 m s
  | .fiaddM16 m => Sys2Proof.Machine.execFiaddM16 m s
  | .fimulM16 m => Sys2Proof.Machine.execFimulM16 m s
  | .ficomM16 m => Sys2Proof.Machine.execFicomM16 m s
  | .ficompM16 m => Sys2Proof.Machine.execFicompM16 m s
  | .fisubM16 m => Sys2Proof.Machine.execFisubM16 m s
  | .fisubrM16 m => Sys2Proof.Machine.execFisubrM16 m s
  | .fidivM16 m => Sys2Proof.Machine.execFidivM16 m s
  | .fidivrM16 m => Sys2Proof.Machine.execFidivrM16 m s
  | .fldM32 m => Sys2Proof.Machine.execFldM32 m s
  | .fstM32 m => Sys2Proof.Machine.execFstM32 m s
  | .fstpM32 m => Sys2Proof.Machine.execFstpM32 m s
  | .fldcwM16 m => Sys2Proof.Machine.execFldcwM16 m s
  | .fnstcwM16 m => Sys2Proof.Machine.execFnstcwM16 m s
  | .fildM32 m => Sys2Proof.Machine.execFildM32 m s
  | .fistM32 m => Sys2Proof.Machine.execFistM32 m s
  | .fistpM32 m => Sys2Proof.Machine.execFistpM32 m s
  | .fldM80 m => Sys2Proof.Machine.execFldM80 m s
  | .fstpM80 m => Sys2Proof.Machine.execFstpM80 m s
  | .fldM64 m => Sys2Proof.Machine.execFldM64 m s
  | .fstM64 m => Sys2Proof.Machine.execFstM64 m s
  | .fstpM64 m => Sys2Proof.Machine.execFstpM64 m s
  | .fnstswM16 m => Sys2Proof.Machine.execFnstswM16 m s
  | .fildM16 m => Sys2Proof.Machine.execFildM16 m s
  | .fistM16 m => Sys2Proof.Machine.execFistM16 m s
  | .fistpM16 m => Sys2Proof.Machine.execFistpM16 m s
  | .fildM64 m => Sys2Proof.Machine.execFildM64 m s
  | .fistpM64 m => Sys2Proof.Machine.execFistpM64 m s
  | .faddStSti j => Sys2Proof.Machine.execFaddStSti j s
  | .fmulStSti j => Sys2Proof.Machine.execFmulStSti j s
  | .fcomSti j => Sys2Proof.Machine.execFcomSti j s
  | .fcompSti j => Sys2Proof.Machine.execFcompSti j s
  | .fsubStSti j => Sys2Proof.Machine.execFsubStSti j s
  | .fsubrStSti j => Sys2Proof.Machine.execFsubrStSti j s
  | .fdivStSti j => Sys2Proof.Machine.execFdivStSti j s
  | .fdivrStSti j => Sys2Proof.Machine.execFdivrStSti j s
  | .fldSti j => Sys2Proof.Machine.execFldSti j s
  | .fxchSti j => Sys2Proof.Machine.execFxchSti j s
  | .fnop => Sys2Proof.Machine.execFnop s
  | .fchs => Sys2Proof.Machine.execFchs s
  | .fabs => Sys2Proof.Machine.execFabs s
  | .ftst => Sys2Proof.Machine.execFtst s
  | .fxam => Sys2Proof.Machine.execFxam s
  | .fld1 => Sys2Proof.Machine.execFld1 s
  | .fldl2t => Sys2Proof.Machine.execFldl2t s
  | .fldl2e => Sys2Proof.Machine.execFldl2e s
  | .fldpi => Sys2Proof.Machine.execFldpi s
  | .fldlg2 => Sys2Proof.Machine.execFldlg2 s
  | .fldln2 => Sys2Proof.Machine.execFldln2 s
  | .fldz => Sys2Proof.Machine.execFldz s
  | .fdecstp => Sys2Proof.Machine.execFdecstp s
  | .fincstp => Sys2Proof.Machine.execFincstp s
  | .fsqrt => Sys2Proof.Machine.execFsqrt s
  | .frndint => Sys2Proof.Machine.execFrndint s
  | .fnclex => Sys2Proof.Machine.execFnclex s
  | .fninit => Sys2Proof.Machine.execFninit s
  | .faddStiSt j => Sys2Proof.Machine.execFaddStiSt j s
  | .fmulStiSt j => Sys2Proof.Machine.execFmulStiSt j s
  | .fsubrStiSt j => Sys2Proof.Machine.execFsubrStiSt j s
  | .fsubStiSt j => Sys2Proof.Machine.execFsubStiSt j s
  | .fdivrStiSt j => Sys2Proof.Machine.execFdivrStiSt j s
  | .fdivStiSt j => Sys2Proof.Machine.execFdivStiSt j s
  | .ffreeSti j => Sys2Proof.Machine.execFfreeSti j s
  | .fstSti j => Sys2Proof.Machine.execFstSti j s
  | .fstpSti j => Sys2Proof.Machine.execFstpSti j s
  | .faddpStiSt j => Sys2Proof.Machine.execFaddpStiSt j s
  | .fmulpStiSt j => Sys2Proof.Machine.execFmulpStiSt j s
  | .fsubrpStiSt j => Sys2Proof.Machine.execFsubrpStiSt j s
  | .fsubpStiSt j => Sys2Proof.Machine.execFsubpStiSt j s
  | .fdivrpStiSt j => Sys2Proof.Machine.execFdivrpStiSt j s
  | .fdivpStiSt j => Sys2Proof.Machine.execFdivpStiSt j s
  | .fcompp => Sys2Proof.Machine.execFcompp s
  | .fnstswAx => Sys2Proof.Machine.execFnstswAx s

end Sys2Proof.Machine
end

