-- ==== Sys2Proof/Machine/Tick.lean ====
section
/-! DEFINITION. `Tick` (30_encoding R121): fetch, decode, execute, with the outcomes of 00_scope R7; and how an instruction
is placed where the next `Tick` fetches it. -/

namespace Sys2Proof.Machine

/-- The bytes that fetch can read from `sel:off` on, at most `n`: offsets wrap at 16 bits, and the first byte out of
bounds ends the list (30_encoding R122, 20_memory R83, R85). -/
def Memory.fetch (m : Memory) (sel off : Word) : Nat → List Byte
  | 0 => []
  | n + 1 => if m.inBounds sel off then m.peek sel off :: m.fetch sel (off + 1) n else []

/-- The bytes at `CS:IP` that the decoder may look at. Reading ahead has no effect (20_memory R93), and the decoder uses
no byte beyond the deciding one (LOG 9). -/
def State.fetched (s : State) : List Byte := s.mem.fetch s.sreg.cs s.ip Config.maxInsnLen

/-- The two outcomes of a `Tick` that are not failures (00_scope R7). -/
inductive TickStatus where
  | ok
  | halted
deriving DecidableEq, Repr

/-- `Tick()` (30_encoding R121; the order of detection is 60_exceptions R464). A halted core changes nothing. The
instruction runs on the state with `IP = next_ip` (30_encoding R126; LOG 2). A fault leaves the state before the
`Tick`, so it carries none (60_exceptions R462; LOG 11). -/
noncomputable def tick (s : State) : Host.Outcome (TickStatus × State) Fault Refusal :=
  if s.halted then .next (.halted, s)
  else
    match decode s.fetched with
    | .error .invalid => .fault (.invalidOpcode s.sreg.cs s.ip)
    | .error .truncated => .fault (.addressing s.sreg.cs (s.ip + BitVec.ofNat 16 s.fetched.length))
    | .ok (i, len) =>
      match exec i (s.setIp (s.ip + BitVec.ofNat 16 len)) with
      | .next t => .next (.ok, t)
      | .fault f => .fault f
      | .refused r => .refused r

/-- Bytes written one after another from `sel:off` on, without the check. -/
def Memory.pokeList (m : Memory) (sel off : Word) : List Byte → Memory
  | [] => m
  | b :: bs => (m.poke sel off b).pokeList sel (off + 1) bs

/-- The bytes placed at `CS:IP`, as a host that loads a program places them (70_reset_and_hazards R507; LOG 10): the
segment that `CS` names is made to exist at its full size, and the core is not halted. -/
def State.placeBytes (s : State) (bs : List Byte) : State :=
  { s with
    halted := false
    mem := ({ s.mem with segs := insertSeg s.mem.segs s.sreg.cs.toNat 65536 } : Memory).pokeList s.sreg.cs s.ip bs }

end Sys2Proof.Machine
end

