-- ==== Sys2Proof/Machine/Step.lean ====
section
/-! DEFINITION. The step with the host's three outcomes: one `Tick`. A `Tick` of a halted core is a next state, the same
one (00_scope R7, 45_string_flag_misc R331; LOG 6). -/

namespace Sys2Proof.Machine

/-- One `Tick` (30_encoding R121). -/
noncomputable def step (s : State) : Host.Outcome State Fault Refusal :=
  match tick s with
  | .next (_, t) => .next t
  | .fault f => .fault f
  | .refused r => .refused r

/-- The state in which the next step fetches the instruction whose bits are `w`, every bit above `nbits` zero
(LOG 10). -/
def State.withFetchWord (s : State) (nbits w : Nat) : State := s.placeBytes (tableBytes nbits w)

end Sys2Proof.Machine
end

