-- ==== Sys2Proof/Safety.lean ====
section
/-! DEFINITION. What counts as a safe run, in the terms the statements use: when an access, a push, a pop or an x87
instruction passes its checks, and, read from the spec's rules and not from the meanings, what each instruction may
write: registers, segment registers, flags (10_state R46), bytes of memory. -/

namespace Sys2Proof.Machine

/-! ## Conditions under which an instruction passes its checks -/

/-- Every one of the `n` bytes from `sel:off` on is in bounds, offsets wrapping at 16 bits (20_memory R83, R85). -/
def State.readable (s : State) (sel off : Word) (n : Nat) : Bool :=
  (List.range n).all (fun k => s.mem.inBounds sel (off + BitVec.ofNat 16 k))

/-- An `r/m` operand of `n` bytes can be read and written. -/
def State.operandOk {ρ : Type} (s : State) (d : Rm ρ) (n : Nat) : Bool :=
  match d with
  | .reg _ => true
  | .mem m => s.readable (s.sel m) (s.off m) n

/-- `k` words can be pushed one after another (20_memory R100). -/
def State.canPush (s : State) (k : Nat) : Bool :=
  decide (2 * k ≤ s.gpr.sp.toNat) && s.readable s.sreg.ss (s.gpr.sp - BitVec.ofNat 16 (2 * k)) (2 * k)

/-- A word can be popped with `SP` moved up by `2 * j` from where it stands (20_memory R101). -/
def State.canPopAt (s : State) (j : Nat) : Bool :=
  match s.mem.segSize s.sreg.ss with
  | none => false
  | some size => decide ((s.gpr.sp + BitVec.ofNat 16 (2 * j)).toNat + 2 ≤ size)

/-- `k` words can be popped one after another (20_memory R101). -/
def State.canPop (s : State) (k : Nat) : Bool := (List.range k).all s.canPopAt

/-- The word at the stack's top, `j` words up: what the pop number `j` of an instruction reads. -/
def State.stackWord (s : State) (j : Nat) : Word :=
  BitVec.ofNat 16 (s.mem.peekN s.sreg.ss (s.gpr.sp + BitVec.ofNat 16 (2 * j)) 2)

/-- The word at `sel:off`, without the check. -/
def State.wordAt (s : State) (sel off : Word) : Word := BitVec.ofNat 16 (s.mem.peekN sel off 2)

/-- An x87 instruction passes the check of 47_x87_instructions R394: always under `wrap`; under `fault` when the slots it
reads are occupied and the slot it pushes to is empty. -/
def State.fpuReady (s : State) (reads : List StIdx) (pushes : Bool) : Bool :=
  decide (s.params.ringPolicy = .wrap)
    || (reads.all (fun i => s.fpu.occupied i) && !(pushes && (s.fpu.fr.get (s.fpu.top - 1)).occupied))

/-- A step that answers a next state. -/
def State.safe (s : State) : Prop := ∃ t, step s = .next t

/-! ## What an instruction may write, from the rules -/

def statusNames : List FlagName := [.CF, .PF, .AF, .ZF, .SF, .OF]

def flagNames : List FlagName := [.CF, .PF, .AF, .ZF, .SF, .TF, .IF, .DF, .OF]

/-- The flags an instruction may write, the table of 10_state R46. -/
def bodyFlags : Instr → List FlagName
  | .addRm8R8 _ _ | .addRm16R16 _ _ | .addR8Rm8 _ _ | .addR16Rm16 _ _ | .addAlImm8 _ | .addAxImm16 _
  | .orRm8R8 _ _ | .orRm16R16 _ _ | .orR8Rm8 _ _ | .orR16Rm16 _ _ | .orAlImm8 _ | .orAxImm16 _ | .adcRm8R8 _ _
  | .adcRm16R16 _ _ | .adcR8Rm8 _ _ | .adcR16Rm16 _ _ | .adcAlImm8 _ | .adcAxImm16 _ | .sbbRm8R8 _ _
  | .sbbRm16R16 _ _ | .sbbR8Rm8 _ _ | .sbbR16Rm16 _ _ | .sbbAlImm8 _ | .sbbAxImm16 _ | .andRm8R8 _ _
  | .andRm16R16 _ _ | .andR8Rm8 _ _ | .andR16Rm16 _ _ | .andAlImm8 _ | .andAxImm16 _ | .subRm8R8 _ _
  | .subRm16R16 _ _ | .subR8Rm8 _ _ | .subR16Rm16 _ _ | .subAlImm8 _ | .subAxImm16 _ | .xorRm8R8 _ _
  | .xorRm16R16 _ _ | .xorR8Rm8 _ _ | .xorR16Rm16 _ _ | .xorAlImm8 _ | .xorAxImm16 _ | .cmpRm8R8 _ _
  | .cmpRm16R16 _ _ | .cmpR8Rm8 _ _ | .cmpR16Rm16 _ _ | .cmpAlImm8 _ | .cmpAxImm16 _ | .imulR16Rm16Imm16 _ _ _
  | .imulR16Rm16Imm8 _ _ _ | .addRm8Imm8 _ _ | .orRm8Imm8 _ _ | .adcRm8Imm8 _ _ | .sbbRm8Imm8 _ _
  | .andRm8Imm8 _ _ | .subRm8Imm8 _ _ | .xorRm8Imm8 _ _ | .cmpRm8Imm8 _ _ | .addRm16Imm16 _ _ | .orRm16Imm16 _ _
  | .adcRm16Imm16 _ _ | .sbbRm16Imm16 _ _ | .andRm16Imm16 _ _ | .subRm16Imm16 _ _ | .xorRm16Imm16 _ _
  | .cmpRm16Imm16 _ _ | .addRm16Imm8 _ _ | .orRm16Imm8 _ _ | .adcRm16Imm8 _ _ | .sbbRm16Imm8 _ _
  | .andRm16Imm8 _ _ | .subRm16Imm8 _ _ | .xorRm16Imm8 _ _ | .cmpRm16Imm8 _ _ | .testRm8R8 _ _
  | .testRm16R16 _ _ | .cmpsb _ _ | .cmpsw _ _ | .testAlImm8 _ | .testAxImm16 _ | .scasb _ | .scasw _
  | .shlRm8Imm8 _ _ | .shrRm8Imm8 _ _ | .sarRm8Imm8 _ _ | .shlRm16Imm8 _ _ | .shrRm16Imm8 _ _ | .sarRm16Imm8 _ _
  | .shlRm8One _ | .shrRm8One _ | .sarRm8One _ | .shlRm16One _ | .shrRm16One _ | .sarRm16One _ | .shlRm8Cl _
  | .shrRm8Cl _ | .sarRm8Cl _ | .shlRm16Cl _ | .shrRm16Cl _ | .sarRm16Cl _ | .testRm8Imm8 _ _ | .negRm8 _
  | .mulRm8 _ | .imulRm8 _ | .divRm8 _ | .idivRm8 _ | .testRm16Imm16 _ _ | .negRm16 _ | .mulRm16 _ | .imulRm16 _
  | .divRm16 _ | .idivRm16 _ => statusNames
  | .incR16 _ | .decR16 _ | .incRm8 _ | .decRm8 _ | .incRm16 _ | .decRm16 _ => [.PF, .AF, .ZF, .SF, .OF]
  | .popf | .iret => flagNames
  | .sahf => [.CF, .PF, .AF, .ZF, .SF]
  | .rolRm8Imm8 _ _ | .rorRm8Imm8 _ _ | .rclRm8Imm8 _ _ | .rcrRm8Imm8 _ _ | .rolRm16Imm8 _ _ | .rorRm16Imm8 _ _
  | .rclRm16Imm8 _ _ | .rcrRm16Imm8 _ _ | .rolRm8One _ | .rorRm8One _ | .rclRm8One _ | .rcrRm8One _
  | .rolRm16One _ | .rorRm16One _ | .rclRm16One _ | .rcrRm16One _ | .rolRm8Cl _ | .rorRm8Cl _ | .rclRm8Cl _
  | .rcrRm8Cl _ | .rolRm16Cl _ | .rorRm16Cl _ | .rclRm16Cl _ | .rcrRm16Cl _ => [.CF, .OF]
  | .cmc | .clc | .stc => [.CF]
  | .cli | .sti => [.IF]
  | .cld | .std => [.DF]
  | _ => []

/-- The general registers that a byte operand writes. -/
def rm8Regs : Rm8 → List R16
  | .reg r => [parentOf r]
  | .mem _ => []

/-- The general registers that a word operand writes. -/
def rm16Regs : Rm16 → List R16
  | .reg r => [r]
  | .mem _ => []

/-- A repeat prefix counts in `CX` (45_string_flag_misc R317). -/
def repCount : Option Rep → List R16
  | none => []
  | some _ => [.cx]

/-- The general registers an instruction may write, from its rule. -/
def bodyRegs : Instr → List R16
  | .addRm8R8 d _ | .orRm8R8 d _ | .adcRm8R8 d _ | .sbbRm8R8 d _ | .andRm8R8 d _ | .subRm8R8 d _ | .xorRm8R8 d _
  | .addRm8Imm8 d _ | .orRm8Imm8 d _ | .adcRm8Imm8 d _ | .sbbRm8Imm8 d _ | .andRm8Imm8 d _ | .subRm8Imm8 d _
  | .xorRm8Imm8 d _ | .movRm8R8 d _ | .rolRm8Imm8 d _ | .rorRm8Imm8 d _ | .rclRm8Imm8 d _ | .rcrRm8Imm8 d _
  | .shlRm8Imm8 d _ | .shrRm8Imm8 d _ | .sarRm8Imm8 d _ | .rolRm8One d | .rorRm8One d | .rclRm8One d
  | .rcrRm8One d | .shlRm8One d | .shrRm8One d | .sarRm8One d | .rolRm8Cl d | .rorRm8Cl d | .rclRm8Cl d
  | .rcrRm8Cl d | .shlRm8Cl d | .shrRm8Cl d | .sarRm8Cl d | .movRm8Imm8 d _ | .notRm8 d | .negRm8 d | .incRm8 d
  | .decRm8 d => rm8Regs d
  | .addRm16R16 d _ | .orRm16R16 d _ | .adcRm16R16 d _ | .sbbRm16R16 d _ | .andRm16R16 d _ | .subRm16R16 d _
  | .xorRm16R16 d _ | .addRm16Imm16 d _ | .orRm16Imm16 d _ | .adcRm16Imm16 d _ | .sbbRm16Imm16 d _
  | .andRm16Imm16 d _ | .subRm16Imm16 d _ | .xorRm16Imm16 d _ | .addRm16Imm8 d _ | .orRm16Imm8 d _
  | .adcRm16Imm8 d _ | .sbbRm16Imm8 d _ | .andRm16Imm8 d _ | .subRm16Imm8 d _ | .xorRm16Imm8 d _
  | .movRm16R16 d _ | .movRm16Es d | .movRm16Cs d | .movRm16Ss d | .movRm16Ds d | .rolRm16Imm8 d _
  | .rorRm16Imm8 d _ | .rclRm16Imm8 d _ | .rcrRm16Imm8 d _ | .shlRm16Imm8 d _ | .shrRm16Imm8 d _
  | .sarRm16Imm8 d _ | .rolRm16One d | .rorRm16One d | .rclRm16One d | .rcrRm16One d | .shlRm16One d
  | .shrRm16One d | .sarRm16One d | .rolRm16Cl d | .rorRm16Cl d | .rclRm16Cl d | .rcrRm16Cl d | .shlRm16Cl d
  | .shrRm16Cl d | .sarRm16Cl d | .movRm16Imm16 d _ | .notRm16 d | .negRm16 d | .incRm16 d | .decRm16 d => rm16Regs d
  | .addR8Rm8 r _ | .orR8Rm8 r _ | .adcR8Rm8 r _ | .sbbR8Rm8 r _ | .andR8Rm8 r _ | .subR8Rm8 r _ | .xorR8Rm8 r _
  | .movR8Rm8 r _ | .movR8Imm8 r _ => [parentOf r]
  | .addR16Rm16 r _ | .orR16Rm16 r _ | .adcR16Rm16 r _ | .sbbR16Rm16 r _ | .andR16Rm16 r _ | .subR16Rm16 r _
  | .xorR16Rm16 r _ | .incR16 r | .decR16 r | .imulR16Rm16Imm16 r _ _ | .imulR16Rm16Imm8 r _ _ | .movR16Rm16 r _
  | .leaR16M r _ | .movR16Imm16 r _ | .lesR16M1616 r _ | .ldsR16M1616 r _ => [r]
  | .addAlImm8 _ | .addAxImm16 _ | .orAlImm8 _ | .orAxImm16 _ | .adcAlImm8 _ | .adcAxImm16 _ | .sbbAlImm8 _
  | .sbbAxImm16 _ | .andAlImm8 _ | .andAxImm16 _ | .subAlImm8 _ | .subAxImm16 _ | .xorAlImm8 _ | .xorAxImm16 _
  | .cbw | .lahf | .movAlMoffs8 _ _ | .movAxMoffs16 _ _ | .xlat _ | .mulRm8 _ | .imulRm8 _ | .divRm8 _
  | .idivRm8 _ | .fnstswAx => [.ax]
  | .pushEs | .pushCs | .pushSs | .pushDs | .popEs | .popSs | .popDs | .pushR16 _ | .pusha | .pushImm16 _
  | .pushImm8 _ | .callPtr1616 _ _ | .pushf | .popf | .retImm16 _ | .ret | .retfImm16 _ | .retf | .iret
  | .callRel16 _ | .callRm16 _ | .callM1616 _ | .pushRm16 _ => [.sp]
  | .popR16 r => [.sp, r]
  | .popa => [.ax, .cx, .dx, .bx, .sp, .bp, .si, .di]
  | .xchgR8Rm8 r x => [parentOf r] ++ rm8Regs x
  | .xchgR16Rm16 r x => [r] ++ rm16Regs x
  | .popRm16 d => .sp :: rm16Regs d
  | .xchgAxCx => [.ax, .cx]
  | .xchgAxDx | .mulRm16 _ | .imulRm16 _ | .divRm16 _ | .idivRm16 _ => [.ax, .dx]
  | .xchgAxBx => [.ax, .bx]
  | .xchgAxSp => [.ax, .sp]
  | .xchgAxBp => [.ax, .bp]
  | .xchgAxSi => [.ax, .si]
  | .xchgAxDi => [.ax, .di]
  | .cwd => [.dx]
  | .movsb _ rep | .movsw _ rep | .cmpsb _ rep | .cmpsw _ rep => repCount rep ++ [.si, .di]
  | .stosb rep | .stosw rep | .scasb rep | .scasw rep => repCount rep ++ [.di]
  | .lodsb _ rep | .lodsw _ rep => repCount rep ++ [.ax, .si]
  | .enterImm16Imm8 _ _ | .leave => [.sp, .bp]
  | .loopneRel8 _ | .loopeRel8 _ | .loopRel8 _ => [.cx]
  | _ => []

/-- The segment registers an instruction may write, from its rule (10_state R35 for `CS`). -/
def bodySegs : Instr → List SReg
  | .popEs | .movEsRm16 _ | .lesR16M1616 _ _ => [.es]
  | .popSs | .movSsRm16 _ => [.ss]
  | .popDs | .movDsRm16 _ | .ldsR16M1616 _ _ => [.ds]
  | .callPtr1616 _ _ | .retfImm16 _ | .retf | .iret | .jmpPtr1616 _ _ | .callM1616 _ | .jmpM1616 _ => [.cs]
  | _ => []

/-- The instructions that may hand the state to the host (60_exceptions R467). -/
def bodyHandsOff : Instr → Bool
  | .boundR16M1616 _ _ | .callPtr1616 _ _ | .int3 | .intImm8 _ | .into | .divRm8 _ | .idivRm8 _ | .divRm16 _
  | .idivRm16 _ | .callM1616 _ => true
  | _ => false

/-- The x87 instructions (47_x87_instructions R390). -/
def bodyIsX87 : Instr → Bool
  | .faddM32 _ | .fmulM32 _ | .fcomM32 _ | .fcompM32 _ | .fsubM32 _ | .fsubrM32 _ | .fdivM32 _ | .fdivrM32 _
  | .faddM64 _ | .fmulM64 _ | .fcomM64 _ | .fcompM64 _ | .fsubM64 _ | .fsubrM64 _ | .fdivM64 _ | .fdivrM64 _
  | .fiaddM32 _ | .fimulM32 _ | .ficomM32 _ | .ficompM32 _ | .fisubM32 _ | .fisubrM32 _ | .fidivM32 _
  | .fidivrM32 _ | .fiaddM16 _ | .fimulM16 _ | .ficomM16 _ | .ficompM16 _ | .fisubM16 _ | .fisubrM16 _
  | .fidivM16 _ | .fidivrM16 _ | .fldM32 _ | .fstM32 _ | .fstpM32 _ | .fldcwM16 _ | .fnstcwM16 _ | .fildM32 _
  | .fistM32 _ | .fistpM32 _ | .fldM80 _ | .fstpM80 _ | .fldM64 _ | .fstM64 _ | .fstpM64 _ | .fnstswM16 _
  | .fildM16 _ | .fistM16 _ | .fistpM16 _ | .fildM64 _ | .fistpM64 _ | .faddStSti _ | .fmulStSti _ | .fcomSti _
  | .fcompSti _ | .fsubStSti _ | .fsubrStSti _ | .fdivStSti _ | .fdivrStSti _ | .fldSti _ | .fxchSti _ | .fnop
  | .fchs | .fabs | .ftst | .fxam | .fld1 | .fldl2t | .fldl2e | .fldpi | .fldlg2 | .fldln2 | .fldz | .fdecstp
  | .fincstp | .fsqrt | .frndint | .fnclex | .fninit | .faddStiSt _ | .fmulStiSt _ | .fsubrStiSt _
  | .fsubStiSt _ | .fdivrStiSt _ | .fdivStiSt _ | .ffreeSti _ | .fstSti _ | .fstpSti _ | .faddpStiSt _
  | .fmulpStiSt _ | .fsubrpStiSt _ | .fsubpStiSt _ | .fdivrpStiSt _ | .fdivpStiSt _ | .fcompp | .fnstswAx => true
  | _ => false

/-- The x87 instructions that write the condition bits (47_x87_instructions R395). -/
def bodyWritesCond : Instr → Bool
  | .fcomM32 _ | .fcompM32 _ | .fcomM64 _ | .fcompM64 _ | .ficomM32 _ | .ficompM32 _ | .ficomM16 _
  | .ficompM16 _ | .fcomSti _ | .fcompSti _ | .ftst | .fxam | .fninit | .fcompp => true
  | _ => false

/-- The bytes an `r/m` operand occupies in memory, as a selector, an offset and a count. -/
def State.operandBytes {ρ : Type} (s : State) (d : Rm ρ) (n : Nat) : Option (Word × Word × Nat) :=
  match d with
  | .reg _ => none
  | .mem m => some (s.sel m, s.off m, n)

/-- The bytes `ENTER` pushes: `BP`, then with a level `L > 0` the `L - 1` copies and the frame (44_stack R296). -/
def State.enterBytes (s : State) (level : Byte) : Option (Word × Word × Nat) :=
  let n := 2 + 2 * (level &&& 0x1F).toNat
  some (s.sreg.ss, s.gpr.sp - BitVec.ofNat 16 n, n)

/-- The bytes an instruction stores to, computed on the state it starts in; for a string instruction, one
iteration's. -/
def bodyStore (s : State) : Instr → Option (Word × Word × Nat)
  | .addRm8R8 d _ | .orRm8R8 d _ | .adcRm8R8 d _ | .sbbRm8R8 d _ | .andRm8R8 d _ | .subRm8R8 d _ | .xorRm8R8 d _
  | .addRm8Imm8 d _ | .orRm8Imm8 d _ | .adcRm8Imm8 d _ | .sbbRm8Imm8 d _ | .andRm8Imm8 d _ | .subRm8Imm8 d _
  | .xorRm8Imm8 d _ | .movRm8R8 d _ | .rolRm8Imm8 d _ | .rorRm8Imm8 d _ | .rclRm8Imm8 d _ | .rcrRm8Imm8 d _
  | .shlRm8Imm8 d _ | .shrRm8Imm8 d _ | .sarRm8Imm8 d _ | .rolRm8One d | .rorRm8One d | .rclRm8One d
  | .rcrRm8One d | .shlRm8One d | .shrRm8One d | .sarRm8One d | .rolRm8Cl d | .rorRm8Cl d | .rclRm8Cl d
  | .rcrRm8Cl d | .shlRm8Cl d | .shrRm8Cl d | .sarRm8Cl d | .movRm8Imm8 d _ | .notRm8 d | .negRm8 d | .incRm8 d
  | .decRm8 d => s.operandBytes d 1
  | .addRm16R16 d _ | .orRm16R16 d _ | .adcRm16R16 d _ | .sbbRm16R16 d _ | .andRm16R16 d _ | .subRm16R16 d _
  | .xorRm16R16 d _ | .addRm16Imm16 d _ | .orRm16Imm16 d _ | .adcRm16Imm16 d _ | .sbbRm16Imm16 d _
  | .andRm16Imm16 d _ | .subRm16Imm16 d _ | .xorRm16Imm16 d _ | .addRm16Imm8 d _ | .orRm16Imm8 d _
  | .adcRm16Imm8 d _ | .sbbRm16Imm8 d _ | .andRm16Imm8 d _ | .subRm16Imm8 d _ | .xorRm16Imm8 d _
  | .movRm16R16 d _ | .movRm16Es d | .movRm16Cs d | .movRm16Ss d | .movRm16Ds d | .popRm16 d | .rolRm16Imm8 d _
  | .rorRm16Imm8 d _ | .rclRm16Imm8 d _ | .rcrRm16Imm8 d _ | .shlRm16Imm8 d _ | .shrRm16Imm8 d _
  | .sarRm16Imm8 d _ | .rolRm16One d | .rorRm16One d | .rclRm16One d | .rcrRm16One d | .shlRm16One d
  | .shrRm16One d | .sarRm16One d | .rolRm16Cl d | .rorRm16Cl d | .rclRm16Cl d | .rcrRm16Cl d | .shlRm16Cl d
  | .shrRm16Cl d | .sarRm16Cl d | .movRm16Imm16 d _ | .notRm16 d | .negRm16 d | .incRm16 d | .decRm16 d => s.operandBytes d 2
  | .pushEs | .pushCs | .pushSs | .pushDs | .pushR16 _ | .pushImm16 _ | .pushImm8 _ | .pushf | .callRel16 _
  | .callRm16 _ | .pushRm16 _ => some (s.sreg.ss, s.gpr.sp - 2, 2)
  | .pusha => some (s.sreg.ss, s.gpr.sp - 16, 16)
  | .xchgR8Rm8 _ x => s.operandBytes x 1
  | .xchgR16Rm16 _ x => s.operandBytes x 2
  | .callPtr1616 _ _ | .callM1616 _ => some (s.sreg.ss, s.gpr.sp - 4, 4)
  | .movMoffs8Al seg off => some (s.seg seg, off, 1)
  | .movMoffs16Ax seg off => some (s.seg seg, off, 2)
  | .movsb _ _ | .stosb _ => some (s.sreg.es, s.gpr.di, 1)
  | .movsw _ _ | .stosw _ => some (s.sreg.es, s.gpr.di, 2)
  | .enterImm16Imm8 _ level => s.enterBytes level
  | .fstM32 m | .fstpM32 m | .fistM32 m | .fistpM32 m => some (s.sel m, s.off m, 4)
  | .fnstcwM16 m | .fnstswM16 m | .fistM16 m | .fistpM16 m => some (s.sel m, s.off m, 2)
  | .fstpM80 m => some (s.sel m, s.off m, 10)
  | .fstM64 m | .fstpM64 m | .fistpM64 m => some (s.sel m, s.off m, 8)
  | _ => none

def mayWriteFlags (i : Instr) : List FlagName := bodyFlags i.body

def mayWriteRegs (i : Instr) : List R16 := bodyRegs i.body

def mayWriteSegs (i : Instr) : List SReg := bodySegs i.body

def handsOff (i : Instr) : Bool := bodyHandsOff i.body

def isX87 (i : Instr) : Bool := bodyIsX87 i.body

def writesCond (i : Instr) : Bool := bodyWritesCond i.body

def storeBytes (i : Instr) (s : State) : Option (Word × Word × Nat) := bodyStore s i.body

/-- A repeated string instruction. -/
def bodyRepeats : Instr → Bool
  | .movsb _ (some _) | .movsw _ (some _) | .cmpsb _ (some _) | .cmpsw _ (some _) | .lodsb _ (some _) => true
  | .lodsw _ (some _) | .stosb (some _) | .stosw (some _) | .scasb (some _) | .scasw (some _) => true
  | _ => false

def repeats (i : Instr) : Bool := bodyRepeats i.body

/-- The width of a string instruction's element in bytes (45_string_flag_misc R310). -/
def bodyWidth : Instr → Word
  | .movsw _ _ | .cmpsw _ _ | .lodsw _ _ | .stosw _ | .scasw _ => 2
  | _ => 1

def stringWidth (i : Instr) : Word := bodyWidth i.body

/-- The control transfers: the instructions that may set `IP` themselves (10_state R34, R35). -/
def bodyTransfers : Instr → Bool
  | .joRel8 _ | .jnoRel8 _ | .jbRel8 _ | .jnbRel8 _ | .jzRel8 _ | .jnzRel8 _ | .jbeRel8 _ | .jnbeRel8 _
  | .jsRel8 _ | .jnsRel8 _ | .jpRel8 _ | .jnpRel8 _ | .jlRel8 _ | .jnlRel8 _ | .jleRel8 _ | .jnleRel8 _
  | .loopneRel8 _ | .loopeRel8 _ | .loopRel8 _ | .jcxzRel8 _ | .jmpRel8 _ | .jmpRel16 _ | .jmpRm16 _
  | .jmpPtr1616 _ _ | .jmpM1616 _ | .callRel16 _ | .callRm16 _ | .callPtr1616 _ _ | .callM1616 _ | .ret
  | .retImm16 _ | .retf | .retfImm16 _ | .iret => true
  | _ => false

def transfers (i : Instr) : Bool := bodyTransfers i.body

/-- Whether the byte at `sel:off` is one of the `n` bytes of a store. -/
def touches (w : Option (Word × Word × Nat)) (sel off : Word) : Bool :=
  match w with
  | none => false
  | some (a, b, n) => decide (sel = a) && decide ((off - b).toNat < n)

end Sys2Proof.Machine
end

