-- ==== Sys2Proof/Certificates/Slice0/Obligations.lean ====
section
/-! DEFINITION. The statements for the provers. The first part is the vocabulary: what an instruction's rule gives, written
from the rule and apart from the meanings (range forms of carry and overflow, bit-vector operations in place of integer
ones, one byte of memory at a time). The second part is the statements, each named after what it states.
In each, `exec` runs on a state whose `IP` is already `next_ip` (LOG 2). -/

namespace Sys2Proof.Spec

open Sys2Proof.Machine

/-! ## Operands, one byte of memory at a time -/

/-- A byte operand's value (00_scope R18). -/
def val8 (s : State) : Loc R8 → Byte
  | .reg r => s.r8 r
  | .mem sel off => s.mem.peek sel off

/-- A word operand's value: the byte at the lower offset is the low one, offsets wrap (20_memory R82, R83). -/
def val16 (s : State) : Loc R16 → Word
  | .reg r => s.r16 r
  | .mem sel off => s.mem.peek sel (off + 1) ++ s.mem.peek sel off

/-- The state with a byte operand written. -/
def with8 (s : State) (l : Loc R8) (v : Byte) : State :=
  match l with
  | .reg r => s.setR8 r v
  | .mem sel off => { s with mem := s.mem.poke sel off v }

/-- The state with a word operand written. -/
def with16 (s : State) (l : Loc R16) (v : Word) : State :=
  match l with
  | .reg r => s.setR16 r v
  | .mem sel off => { s with mem := (s.mem.poke sel off (lowByte v)).poke sel (off + 1) (highByte v) }

/-- The word in memory at `sel:off`. -/
def memWord (s : State) (sel off : Word) : Word := val16 s (.mem sel off)

/-- The word `j` places up the stack. -/
def stackTop (s : State) (j : Nat) : Word := memWord s s.sreg.ss (s.gpr.sp + BitVec.ofNat 16 (2 * j))

/-- `SP <- v`. -/
def withSp (s : State) (v : Word) : State := { s with gpr := { s.gpr with sp := v } }

/-- The state after a push that is in bounds (20_memory R100). -/
def pushed (s : State) (v : Word) : State := withSp (with16 s (.mem s.sreg.ss (s.gpr.sp - 2)) v) (s.gpr.sp - 2)

/-- `SP` moved past `k` words. -/
def dropped (s : State) (k : Nat) : State := withSp s (s.gpr.sp + BitVec.ofNat 16 (2 * k))

/-! ## Flags -/

variable {n : Nat}

/-- An even number of 1 bits in the low byte, as the sum of the bits modulo 2 (10_state R42). -/
def evenOnes (r : BitVec n) : Bool :=
  !(r.getLsbD 0 ^^ r.getLsbD 1 ^^ r.getLsbD 2 ^^ r.getLsbD 3 ^^ r.getLsbD 4 ^^ r.getLsbD 5 ^^ r.getLsbD 6
    ^^ r.getLsbD 7)

/-- Outside `-2^(n-1) .. 2^(n-1)-1`. -/
def outside (n : Nat) (x : Int) : Bool := decide (x < -(2 ^ (n - 1)) ∨ 2 ^ (n - 1) ≤ x)

/-- The status flags of a result: `ZF SF PF` from it, the others given (10_state R42). -/
def resultFlags (res : BitVec n) (cf af ovf : Bool) : StatusFlags :=
  { CF := cf, PF := evenOnes res, AF := af, ZF := decide (res.toNat = 0), SF := decide (2 ^ (n - 1) ≤ res.toNat)
    OF := ovf }

/-- The flags of `a + b + c` (10_state R43): carry out of the top, carry out of bit 3, the signed sum out of range. -/
def sumFlags (a b : BitVec n) (c : Bool) : StatusFlags :=
  resultFlags (a + b + BitVec.ofNat n c.toNat) (decide (2 ^ n ≤ a.toNat + b.toNat + c.toNat))
    (decide (16 ≤ a.toNat % 16 + b.toNat % 16 + c.toNat)) (outside n (a.toInt + b.toInt + c.toNat))

/-- The flags of `a - b - c` (10_state R44): the borrows, the signed difference out of range. -/
def diffFlags (a b : BitVec n) (c : Bool) : StatusFlags :=
  resultFlags (a - b - BitVec.ofNat n c.toNat) (decide (a.toNat < b.toNat + c.toNat))
    (decide (a.toNat % 16 < b.toNat % 16 + c.toNat)) (outside n (a.toInt - b.toInt - c.toNat))

/-- The flags of a logic result: `CF` and `OF` 0, `AF` from `UF` (10_state R45, R47). -/
def bitFlags (m : UfMnemonic) (a b res : BitVec n) : StatusFlags :=
  resultFlags res false (Config.UF m n a.toNat b.toNat false).AF false

/-! ## Shapes of instructions -/

/-- A byte operand combined with a value and written, the status flags written. -/
def op8 (res : Byte → Byte → Byte) (fl : Byte → Byte → StatusFlags) (s : State) (l : Loc R8) (b : Byte) : State :=
  { with8 s l (res (val8 s l) b) with flags := s.flags.withStatus (fl (val8 s l) b) }

def op16 (res : Word → Word → Word) (fl : Word → Word → StatusFlags) (s : State) (l : Loc R16) (b : Word) : State :=
  { with16 s l (res (val16 s l) b) with flags := s.flags.withStatus (fl (val16 s l) b) }

/-- The status flags alone written. -/
def flagsOnly8 (fl : Byte → Byte → StatusFlags) (s : State) (l : Loc R8) (b : Byte) : State :=
  { s with flags := s.flags.withStatus (fl (val8 s l) b) }

def flagsOnly16 (fl : Word → Word → StatusFlags) (s : State) (l : Loc R16) (b : Word) : State :=
  { s with flags := s.flags.withStatus (fl (val16 s l) b) }

/-- The nine forms of 41_arithmetic R190 and 42_logic R220: each, when its memory operand is in bounds, answers what
`byte` or `word` gives for its destination and its source. -/
def NineForms (byte : State → Loc R8 → Byte → State) (word : State → Loc R16 → Word → State)
    (rm8R8 : Rm8 → R8 → Instr) (rm16R16 : Rm16 → R16 → Instr) (r8Rm8 : R8 → Rm8 → Instr)
    (r16Rm16 : R16 → Rm16 → Instr) (alImm8 : Byte → Instr) (axImm16 : Word → Instr) (rm8Imm8 : Rm8 → Byte → Instr)
    (rm16Imm16 : Rm16 → Word → Instr) (rm16Imm8 : Rm16 → Byte → Instr) : Prop :=
  ∀ s : State,
    (∀ d r, s.operandOk d 1 = true → exec (rm8R8 d r) s = .next (byte s (s.loc d) (s.r8 r)))
    ∧ (∀ d r, s.operandOk d 2 = true → exec (rm16R16 d r) s = .next (word s (s.loc d) (s.r16 r)))
    ∧ (∀ r x, s.operandOk x 1 = true → exec (r8Rm8 r x) s = .next (byte s (.reg r) (val8 s (s.loc x))))
    ∧ (∀ r x, s.operandOk x 2 = true → exec (r16Rm16 r x) s = .next (word s (.reg r) (val16 s (s.loc x))))
    ∧ (∀ v, exec (alImm8 v) s = .next (byte s (.reg .al) v))
    ∧ (∀ v, exec (axImm16 v) s = .next (word s (.reg .ax) v))
    ∧ (∀ d v, s.operandOk d 1 = true → exec (rm8Imm8 d v) s = .next (byte s (s.loc d) v))
    ∧ (∀ d v, s.operandOk d 2 = true → exec (rm16Imm16 d v) s = .next (word s (s.loc d) v))
    ∧ (∀ d v, s.operandOk d 2 = true → exec (rm16Imm8 d v) s = .next (word s (s.loc d) (v.signExtend 16)))

/-- The forms of a shift or rotate (42_logic R226): the count masked to 5 bits; with masked count 0 nothing is
written; else the operand and the flags become what `eval` gives. -/
def ShiftForms (eval : (n : Nat) → BitVec n → Nat → Flags → BitVec n × Flags) (rm8Imm8 : Rm8 → Byte → Instr)
    (rm16Imm8 : Rm16 → Byte → Instr) (rm8One : Rm8 → Instr) (rm16One : Rm16 → Instr) (rm8Cl : Rm8 → Instr)
    (rm16Cl : Rm16 → Instr) : Prop :=
  let byte (s : State) (l : Loc R8) (c : Nat) : State :=
    if c = 0 then s
    else { with8 s l (eval 8 (val8 s l) c s.flags).1 with flags := (eval 8 (val8 s l) c s.flags).2 }
  let word (s : State) (l : Loc R16) (c : Nat) : State :=
    if c = 0 then s
    else { with16 s l (eval 16 (val16 s l) c s.flags).1 with flags := (eval 16 (val16 s l) c s.flags).2 }
  ∀ s : State,
    (∀ d v, s.operandOk d 1 = true → exec (rm8Imm8 d v) s = .next (byte s (s.loc d) (v.toNat % 32)))
    ∧ (∀ d v, s.operandOk d 2 = true → exec (rm16Imm8 d v) s = .next (word s (s.loc d) (v.toNat % 32)))
    ∧ (∀ d, s.operandOk d 1 = true → exec (rm8One d) s = .next (byte s (s.loc d) 1))
    ∧ (∀ d, s.operandOk d 2 = true → exec (rm16One d) s = .next (word s (s.loc d) 1))
    ∧ (∀ d, s.operandOk d 1 = true → exec (rm8Cl d) s = .next (byte s (s.loc d) (s.gpr.cx.toNat % 32)))
    ∧ (∀ d, s.operandOk d 2 = true → exec (rm16Cl d) s = .next (word s (s.loc d) (s.gpr.cx.toNat % 32)))

/-- `SHL` (42_logic R227). -/
def shl (n : Nat) (a : BitVec n) (c : Nat) (f : Flags) : BitVec n × Flags :=
  let u := Config.UF .SHL n a.toNat c false
  let cf := if c < n then a.getLsbD (n - c) else u.CF
  (a <<< c, f.withStatus (resultFlags (a <<< c) cf u.AF (if c = 1 then (a <<< c).msb ^^ cf else u.OF)))

/-- `SHR` (42_logic R228). -/
def shr (n : Nat) (a : BitVec n) (c : Nat) (f : Flags) : BitVec n × Flags :=
  let u := Config.UF .SHR n a.toNat c false
  let cf := if c < n then a.getLsbD (c - 1) else u.CF
  (a >>> c, f.withStatus (resultFlags (a >>> c) cf u.AF (if c = 1 then a.getLsbD (n - 1) else u.OF)))

/-- `SAR` (42_logic R229): the last bit shifted out is the low bit of the shift by one less. -/
def sar (n : Nat) (a : BitVec n) (c : Nat) (f : Flags) : BitVec n × Flags :=
  let u := Config.UF .SAR n a.toNat c false
  let cf := (a.sshiftRight (c - 1)).getLsbD 0
  (a.sshiftRight c, f.withStatus (resultFlags (a.sshiftRight c) cf u.AF (if c = 1 then false else u.OF)))

/-- `ROL` (42_logic R230). -/
def rol (n : Nat) (a : BitVec n) (c : Nat) (f : Flags) : BitVec n × Flags :=
  let res := a.rotateLeft c
  (res, { f with
    CF := res.getLsbD 0
    OF := if c = 1 then res.getLsbD (n - 1) ^^ res.getLsbD 0 else (Config.UF .ROL n a.toNat c false).OF })

/-- `ROR` (42_logic R231). -/
def ror (n : Nat) (a : BitVec n) (c : Nat) (f : Flags) : BitVec n × Flags :=
  let res := a.rotateRight c
  (res, { f with
    CF := res.getLsbD (n - 1)
    OF := if c = 1 then res.getLsbD (n - 1) ^^ res.getLsbD (n - 2) else (Config.UF .ROR n a.toNat c false).OF })

/-- `RCL` (42_logic R232): the rotation of `CF ++ a`, `n + 1` bits. -/
def rcl (n : Nat) (a : BitVec n) (c : Nat) (f : Flags) : BitVec n × Flags :=
  let v := (BitVec.cons f.CF a).rotateLeft c
  (v.setWidth n, { f with
    CF := v.getLsbD n
    OF := if c = 1 then v.getLsbD (n - 1) ^^ v.getLsbD n else (Config.UF .RCL n a.toNat c f.CF).OF })

/-- `RCR` (42_logic R233). -/
def rcr (n : Nat) (a : BitVec n) (c : Nat) (f : Flags) : BitVec n × Flags :=
  let v := (BitVec.cons f.CF a).rotateRight c
  (v.setWidth n, { f with
    CF := v.getLsbD n
    OF := if c = 1 then v.getLsbD (n - 1) ^^ v.getLsbD (n - 2) else (Config.UF .RCR n a.toNat c f.CF).OF })

/-- `q` and `r` are quotient and remainder of `x` by `y`, rounded toward zero (41_arithmetic R203). -/
def Divides (x y q r : Int) : Prop := x = q * y + r ∧ r.natAbs < y.natAbs ∧ (r = 0 ∨ r.sign = x.sign)

/-- The nine flags read from an image (10_state R41). -/
def flagsOf (w : Word) : Flags :=
  { CF := w.getLsbD 0, PF := w.getLsbD 2, AF := w.getLsbD 4, ZF := w.getLsbD 6, SF := w.getLsbD 7
    TF := w.getLsbD 8, IF := w.getLsbD 9, DF := w.getLsbD 10, OF := w.getLsbD 11 }

/-- The image of the nine flags, as a number (10_state R41). -/
def imageOf (f : Flags) : Nat :=
  f.CF.toNat + 2 + 4 * f.PF.toNat + 16 * f.AF.toNat + 64 * f.ZF.toNat + 128 * f.SF.toNat + 256 * f.TF.toNat
    + 512 * f.IF.toNat + 1024 * f.DF.toNat + 2048 * f.OF.toNat

/-- The frame pointers that `ENTER` copies, one after another, each read after the push before it (44_stack R296). -/
def framesCopied (bp : Word) : Nat → State → State
  | 0, t => t
  | j + 1, t =>
    let u := framesCopied bp j t
    pushed u (memWord u u.sreg.ss (bp - BitVec.ofNat 16 (2 * (j + 1))))

/-- `SI` and `DI` moved by a string instruction (45_string_flag_misc R311). -/
def advance (s : State) (w : Word) (si di : Bool) : State :=
  let step (v : Word) : Word := if s.flags.DF then v - w else v + w
  { s with gpr := { s.gpr with
      si := if si then step s.gpr.si else s.gpr.si
      di := if di then step s.gpr.di else s.gpr.di } }

/-- The outcome of one instruction followed by something on its next state. -/
def andThen (o : Host.Outcome State Fault Refusal) (k : State → Host.Outcome State Fault Refusal) :
    Host.Outcome State Fault Refusal :=
  match o with
  | .next t => k t
  | .fault f => .fault f
  | .refused r => .refused r

/-- `CX <- CX - 1`. -/
def countDown (s : State) : State := { s with gpr := { s.gpr with cx := s.gpr.cx - 1 } }

/-- The rule of repetition (45_string_flag_misc R317), one iteration unrolled: with `CX` = 0 nothing; else an iteration,
the decrement of `CX`, then the end or the rest. -/
def Repeats (form : Option Rep → Instr) (stop : Rep → Bool → Bool) : Prop :=
  ∀ (s : State) (r : Rep),
    (s.gpr.cx = 0 → exec (form (some r)) s = .next s)
    ∧ (s.gpr.cx ≠ 0 → exec (form (some r)) s = andThen (exec (form none) s) (fun t =>
        if stop r t.flags.ZF then .next (countDown t) else exec (form (some r)) (countDown t)))

/-! ## x87 -/

/-- `ST(i) <- v`, the flags set, `k` pops. -/
def fpResult (s : State) (i : StIdx) (v : F80) (x : ExcFlags) (k : Nat) : State :=
  { s with fpu := ((s.fpu.setSt i v).raise x).popN k }

/-- `FPush(v)` and the flags set. -/
def fpPushed (s : State) (v : F80) (x : ExcFlags) : State :=
  { s with fpu := { s.fpu with
      top := s.fpu.top - 1
      fr := s.fpu.fr.set (s.fpu.top - 1) { val := v, occupied := true }
      exc := s.fpu.exc.or x } }

/-- The operand in a slot. -/
def fpSlot (s : State) (i : StIdx) : Operand := .ofSlot (s.fpu.st i)

/-- The operand of a real format in memory (46_x87_numerics R347). -/
def fpReal (fmt : Fmt) (n : Nat) (s : State) (m : Mem) : Operand := widen fmt (s.mem.peekN (s.sel m) (s.off m) n)

/-- The operand of an integer of `8 * n` bits in memory (46_x87_numerics R345, R347). -/
def fpInt (n : Nat) (s : State) (m : Mem) : Operand :=
  .ofInt (BitVec.ofNat (8 * n) (s.mem.peekN (s.sel m) (s.off m) n)).toInt

/-- A memory form of an arithmetic instruction: `ST(0) <- f(ST(0), m)` (47_x87_instructions, section 5). -/
def FpMemForm (n : Nat) (src : State → Mem → Operand) (f : Operand → Operand → F80 × ExcFlags) (form : Mem → Instr) :
    Prop :=
  ∀ (s : State) (m : Mem), s.fpuReady [0] false = true → s.readable (s.sel m) (s.off m) n = true →
    exec (form m) s = .next (fpResult s 0 (f (fpSlot s 0) (src s m)).1
      ((src s m).exc.or (f (fpSlot s 0) (src s m)).2) 0)

/-- A form `ST, ST(i)`: `ST(0) <- f(ST(0), ST(i))`. -/
def FpTopForm (f : Operand → Operand → F80 × ExcFlags) (form : StIdx → Instr) : Prop :=
  ∀ (s : State) (i : StIdx), s.fpuReady [0, i] false = true →
    exec (form i) s = .next (fpResult s 0 (f (fpSlot s 0) (fpSlot s i)).1 (f (fpSlot s 0) (fpSlot s i)).2 0)

/-- A form `ST(i), ST`: `ST(i) <- f(ST(i), ST(0))`, then `k` pops. -/
def FpToForm (k : Nat) (f : Operand → Operand → F80 × ExcFlags) (form : StIdx → Instr) : Prop :=
  ∀ (s : State) (i : StIdx), s.fpuReady [i, 0] false = true →
    exec (form i) s = .next (fpResult s i (f (fpSlot s i) (fpSlot s 0)).1 (f (fpSlot s i) (fpSlot s 0)).2 k)

/-- The operands exchanged, for the reversed instructions. -/
def swapped (f : Operand → Operand → F80 × ExcFlags) : Operand → Operand → F80 × ExcFlags := fun a b => f b a

/-- All forms of an arithmetic operation: `m32`, `m64`, `ST,ST(i)`, `ST(i),ST`, `ST(i),ST` with a pop, `m16int`,
`m32int`; the result format is that of the operand's declared width (46_x87_numerics R350). -/
def FpForms (f : Fmt → Operand → Operand → F80 × ExcFlags) (m32 m64 : Mem → Instr) (st sti stiPop : StIdx → Instr)
    (i16 i32 : Mem → Instr) : Prop :=
  FpMemForm 4 (fpReal .b32 4) (f .b32) m32 ∧ FpMemForm 8 (fpReal .b64 8) (f .b64) m64 ∧ FpTopForm (f .x80) st
    ∧ FpToForm 0 (f .x80) sti ∧ FpToForm 1 (f .x80) stiPop
    ∧ FpMemForm 2 (fpInt 2) (f .x80) i16 ∧ FpMemForm 4 (fpInt 4) (f .x80) i32

/-- The condition bits after a compare, by its outcome (47_x87_instructions R433). -/
def condOf (r : Cmp) : CondBits :=
  { C0 := decide (r = .lt ∨ r = .un), C1 := false, C2 := decide (r = .un), C3 := decide (r = .eq ∨ r = .un) }

/-- The state after `ST(0)` is compared with an operand, then `k` pops (47_x87_instructions R433). -/
def fpCompared (s : State) (b : Operand) (k : Nat) : State :=
  { s with fpu := ({ s.fpu with
      cond := condOf (fCompare (fpSlot s 0) b).1
      exc := s.fpu.exc.or (b.exc.or (fCompare (fpSlot s 0) b).2) } : Fpu).popN k }

/-- A compare with memory. -/
def FpCompareForm (n : Nat) (src : State → Mem → Operand) (k : Nat) (form : Mem → Instr) : Prop :=
  ∀ (s : State) (m : Mem), s.fpuReady [0] false = true → s.readable (s.sel m) (s.off m) n = true →
    exec (form m) s = .next (fpCompared s (src s m) k)

/-- A store of `n` bytes of a value made from `ST(0)`, with flags, then `k` pops (47_x87_instructions R411 to R414). -/
def FpStoreForm (n : Nat) (f : State → F80 → Nat × ExcFlags) (k : Nat) (form : Mem → Instr) : Prop :=
  ∀ (s : State) (m : Mem), s.fpuReady [0] false = true → s.readable (s.sel m) (s.off m) n = true →
    exec (form m) s = .next { s with
      mem := s.mem.pokeN (s.sel m) (s.off m) n (f s (s.fpu.st 0)).1
      fpu := (s.fpu.raise (f s (s.fpu.st 0)).2).popN k }

/-- A one-operand operation on `ST(0)`. -/
def FpUnaryForm (f : State → F80 → F80 × ExcFlags) (i : Instr) : Prop :=
  ∀ s : State, s.fpuReady [0] false = true →
    exec i s = .next (fpResult s 0 (f s (s.fpu.st 0)).1 (f s (s.fpu.st 0)).2 0)

/-- The status word as a number (10_state R54, 47_x87_instructions R454). -/
def statusOf (u : Fpu) : Nat :=
  u.exc.IE.toNat + 2 * u.exc.DE.toNat + 4 * u.exc.ZE.toNat + 8 * u.exc.OE.toNat + 16 * u.exc.UE.toNat
    + 32 * u.exc.PE.toNat + 256 * u.cond.C0.toNat + 512 * u.cond.C1.toNat + 1024 * u.cond.C2.toNat
    + 2048 * u.top.toNat + 16384 * u.cond.C3.toNat

/-- The slots an x87 instruction reads as numeric sources (47_x87_instructions R394 and each rule). -/
def slotsRead : Instr → List StIdx
  | .faddM32 _ | .fmulM32 _ | .fcomM32 _ | .fcompM32 _ | .fsubM32 _ | .fsubrM32 _ | .fdivM32 _ | .fdivrM32 _
  | .faddM64 _ | .fmulM64 _ | .fcomM64 _ | .fcompM64 _ | .fsubM64 _ | .fsubrM64 _ | .fdivM64 _ | .fdivrM64 _
  | .fiaddM32 _ | .fimulM32 _ | .ficomM32 _ | .ficompM32 _ | .fisubM32 _ | .fisubrM32 _ | .fidivM32 _
  | .fidivrM32 _ | .fiaddM16 _ | .fimulM16 _ | .ficomM16 _ | .ficompM16 _ | .fisubM16 _ | .fisubrM16 _
  | .fidivM16 _ | .fidivrM16 _ | .fstM32 _ | .fstpM32 _ | .fistM32 _ | .fistpM32 _ | .fstpM80 _ | .fstM64 _
  | .fstpM64 _ | .fistM16 _ | .fistpM16 _ | .fistpM64 _ | .fchs | .fabs | .ftst | .fsqrt | .frndint | .fstSti _
  | .fstpSti _ => [0]
  | .faddStSti i | .fmulStSti i | .fcomSti i | .fcompSti i | .fsubStSti i | .fsubrStSti i | .fdivStSti i
  | .fdivrStSti i | .fxchSti i | .faddStiSt i | .fmulStiSt i | .fsubrStiSt i | .fsubStiSt i | .fdivrStiSt i
  | .fdivStiSt i | .faddpStiSt i | .fmulpStiSt i | .fsubrpStiSt i | .fsubpStiSt i | .fdivrpStiSt i
  | .fdivpStiSt i => [0, i]
  | .fldSti i => [i]
  | .fcompp => [0, 1]
  | _ => []

/-- The x87 instructions that push (47_x87_instructions R400 to R410). -/
def pushesFp : Instr → Bool
  | .fldM32 _ | .fldM64 _ | .fldM80 _ | .fldSti _ | .fildM16 _ | .fildM32 _ | .fildM64 _ | .fld1 | .fldl2t
  | .fldl2e | .fldpi | .fldlg2 | .fldln2 | .fldz => true
  | _ => false

/-- How many bytes of its `r/m` operand an instruction accesses in memory, from the operand column of its row: a word, but
for those listed; none for `LEA`, which touches no memory (40_data_movement R175), and none for `POP r/m16`, whose
pop comes first (44_stack R291). -/
def operandWidth : Instr → Nat
  | .leaR16M _ _ | .popRm16 _ => 0
  | .addRm8R8 _ _ | .addR8Rm8 _ _ | .orRm8R8 _ _ | .orR8Rm8 _ _ | .adcRm8R8 _ _ | .adcR8Rm8 _ _ | .sbbRm8R8 _ _
  | .sbbR8Rm8 _ _ | .andRm8R8 _ _ | .andR8Rm8 _ _ | .subRm8R8 _ _ | .subR8Rm8 _ _ | .xorRm8R8 _ _
  | .xorR8Rm8 _ _ | .cmpRm8R8 _ _ | .cmpR8Rm8 _ _ | .addRm8Imm8 _ _ | .orRm8Imm8 _ _ | .adcRm8Imm8 _ _
  | .sbbRm8Imm8 _ _ | .andRm8Imm8 _ _ | .subRm8Imm8 _ _ | .xorRm8Imm8 _ _ | .cmpRm8Imm8 _ _ | .testRm8R8 _ _
  | .xchgR8Rm8 _ _ | .movRm8R8 _ _ | .movR8Rm8 _ _ | .rolRm8Imm8 _ _ | .rorRm8Imm8 _ _ | .rclRm8Imm8 _ _
  | .rcrRm8Imm8 _ _ | .shlRm8Imm8 _ _ | .shrRm8Imm8 _ _ | .sarRm8Imm8 _ _ | .rolRm8One _ | .rorRm8One _
  | .rclRm8One _ | .rcrRm8One _ | .shlRm8One _ | .shrRm8One _ | .sarRm8One _ | .rolRm8Cl _ | .rorRm8Cl _
  | .rclRm8Cl _ | .rcrRm8Cl _ | .shlRm8Cl _ | .shrRm8Cl _ | .sarRm8Cl _ | .movRm8Imm8 _ _ | .testRm8Imm8 _ _
  | .notRm8 _ | .negRm8 _ | .mulRm8 _ | .imulRm8 _ | .divRm8 _ | .idivRm8 _ | .incRm8 _ | .decRm8 _ => 1
  | .boundR16M1616 _ _ | .lesR16M1616 _ _ | .ldsR16M1616 _ _ | .callM1616 _ | .jmpM1616 _ | .faddM32 _
  | .fmulM32 _ | .fcomM32 _ | .fcompM32 _ | .fsubM32 _ | .fsubrM32 _ | .fdivM32 _ | .fdivrM32 _ | .fiaddM32 _
  | .fimulM32 _ | .ficomM32 _ | .ficompM32 _ | .fisubM32 _ | .fisubrM32 _ | .fidivM32 _ | .fidivrM32 _ | .fldM32 _
  | .fstM32 _ | .fstpM32 _ | .fildM32 _ | .fistM32 _ | .fistpM32 _ => 4
  | .faddM64 _ | .fmulM64 _ | .fcomM64 _ | .fcompM64 _ | .fsubM64 _ | .fsubrM64 _ | .fdivM64 _ | .fdivrM64 _
  | .fldM64 _ | .fstM64 _ | .fstpM64 _ | .fildM64 _ | .fistpM64 _ => 8
  | .fldM80 _ | .fstpM80 _ => 10
  | _ => 2

/-- The operand in memory that an instruction accesses first: its selector, its offset and its width in bytes. -/
def operandAt (i : Instr) (s : State) : Option (Word × Word × Nat) :=
  match i with
  | .movAlMoffs8 g off | .movMoffs8Al g off => some (s.seg g, off, 1)
  | .movAxMoffs16 g off | .movMoffs16Ax g off => some (s.seg g, off, 2)
  | .xlat g => some (s.seg g, BitVec.ofNat 16 (s.gpr.bx.toNat + s.gpr.ax.toNat % 256), 1)
  | i =>
    match i.shape with
    | .modrm (some m) _ => some (s.sel m, s.off m, operandWidth i)
    | _ => none

/-- An access that an instruction makes: bytes in memory, a word pushed or popped at a value of `SP`. -/
inductive Access where
  | bytes (sel off : Word) (n : Nat)
  | push (sp : Word)
  | pop (sp : Word)

/-- The address that the fault of an access names, none where the access is in bounds: of bytes the first that is out of
bounds, of a push `SP - 2` where it falls below the segment, of a pop `SP` where it passes the segment's end
(20_memory R85, R88 to R90, R100, R101). -/
def Access.failsAt (s : State) : Access → Option (Word × Word)
  | .bytes sel off n => missing sel off n
  | .push sp => if sp.toNat < 2 then some (s.sreg.ss, sp - 2) else missing s.sreg.ss (sp - 2) 2
  | .pop sp =>
    match s.mem.segSize s.sreg.ss with
    | none => some (s.sreg.ss, sp)
    | some z => if z < sp.toNat + 2 then some (s.sreg.ss, sp) else none
where
  missing (sel off : Word) (n : Nat) : Option (Word × Word) :=
    ((List.range n).find? (fun k => !s.mem.inBounds sel (off + BitVec.ofNat 16 k))).map
      (fun k => (sel, off + BitVec.ofNat 16 k))

/-- Pushes one after another, and pops, `SP` starting at a value. -/
def pushesAt (sp : Word) (n : Nat) : List Access := (List.range n).map (fun j => .push (sp - BitVec.ofNat 16 (2 * j)))

def popsAt (sp : Word) (n : Nat) : List Access := (List.range n).map (fun j => .pop (sp + BitVec.ofNat 16 (2 * j)))

/-- The elements of a string that the first iteration accesses; none where a repetition starts with `CX` = 0
(45_string_flag_misc R312 to R317). -/
def stringAccesses (s : State) (rep : Option Rep) (n : Nat) (source : Option SReg) (destination : Bool) : List Access :=
  if rep.isSome = true ∧ s.gpr.cx = 0 then []
  else (source.toList.map fun g => .bytes (s.seg g) s.gpr.si n)
    ++ if destination then [.bytes s.sreg.es s.gpr.di n] else []

/-- The accesses that no `r/m` operand names, in order, on the state the instruction starts in: those of the stack
(43_control_transfer R260 to R270, 44_stack R290 to R297), the destination of `POP r/m16`, whose pop comes first
(R291), and the elements of strings. -/
def furtherAccesses (i : Instr) (s : State) : List Access :=
  let sp := s.gpr.sp
  let farCall (sel : Word) : List Access := if sel ∈ s.params.hostFarSelectors then [] else pushesAt sp 2
  match i with
  | .pushEs | .pushCs | .pushSs | .pushDs | .pushR16 _ | .pushImm16 _ | .pushImm8 _ | .pushf | .pushRm16 _ | .callRel16 _
  | .callRm16 _ => pushesAt sp 1
  | .popEs | .popSs | .popDs | .popR16 _ | .popf | .ret | .retImm16 _ => popsAt sp 1
  | .popRm16 d => popsAt sp 1 ++ match d with
    | .mem m => [.bytes (s.sel m) (s.off m) 2]
    | .reg _ => []
  | .pusha => pushesAt sp 8
  | .popa => popsAt sp 3 ++ popsAt (sp + 8) 4
  | .retf | .retfImm16 _ => popsAt sp 2
  | .iret => popsAt sp 3
  | .leave => popsAt s.gpr.bp 1
  | .callPtr1616 _ sel => farCall sel
  | .callM1616 m => farCall (memWord s (s.sel m) (s.off m + 2))
  | .enterImm16Imm8 _ level =>
    let n := level.toNat % 32
    pushesAt sp 1 ++ if n = 0 then []
      else ((List.range (n - 1)).flatMap fun j =>
          [.bytes s.sreg.ss (s.gpr.bp - BitVec.ofNat 16 (2 * (j + 1))) 2, .push (sp - BitVec.ofNat 16 (2 * (j + 1)))])
        ++ [.push (sp - BitVec.ofNat 16 (2 * n))]
  | .movsb g r | .cmpsb g r => stringAccesses s r 1 (some g) true
  | .movsw g r | .cmpsw g r => stringAccesses s r 2 (some g) true
  | .lodsb g r => stringAccesses s r 1 (some g) false
  | .lodsw g r => stringAccesses s r 2 (some g) false
  | .stosb r | .scasb r => stringAccesses s r 1 none true
  | .stosw r | .scasw r => stringAccesses s r 2 none true
  | _ => []

/-- The accesses of an instruction in order: its operand's first (60_exceptions R464). -/
def accesses (i : Instr) (s : State) : List Access :=
  ((operandAt i s).toList.map fun x => .bytes x.1 x.2.1 x.2.2) ++ furtherAccesses i s

/-! ## Rationals -/

/-- The rational number that a pair stands for. -/
def rat (x : Ratio) : ℚ := (x.num : ℚ) / (x.den : ℚ)

/-- `i` is the integer nearest to `q`, the even one of two (46_x87_numerics R348). -/
def Nearest (q : ℚ) (i : Int) : Prop := |q - i| ≤ 1 / 2 ∧ (|q - i| = 1 / 2 → i % 2 = 0)

/-- `i` is `RInt(rc, q)` (46_x87_numerics R352). -/
def RoundedInt (rc : BitVec 2) (q : ℚ) (i : Int) : Prop :=
  match rc.toNat with
  | 0 => Nearest q i
  | 1 => i = ⌊q⌋
  | 2 => i = ⌈q⌉
  | _ => i = if q < 0 then ⌈q⌉ else ⌊q⌋

/-! ## Floating-point data by their bits, and what an operation gives -/

/-- The exponent field, the significand, the sign bit of a datum (46_x87_numerics R341). -/
def expField (v : F80) : Nat := (v.extractLsb' 64 15).toNat

def sigField (v : F80) : Nat := (v.extractLsb' 0 64).toNat

def negative (v : F80) : Bool := v.getLsbD 79

/-! The classes (46_x87_numerics R342). -/

def isZero (v : F80) : Bool := decide (expField v = 0 ∧ sigField v = 0)

def isDenormal (v : F80) : Bool := decide (expField v = 0 ∧ sigField v ≠ 0)

def isFinite (v : F80) : Bool := decide (expField v = 0 ∨ (expField v < 0x7FFF ∧ v.getLsbD 63 = true))

def isInfinite (v : F80) : Bool := decide (expField v = 0x7FFF ∧ sigField v = 2 ^ 63)

def isNaN (v : F80) : Bool := decide (expField v = 0x7FFF ∧ 2 ^ 63 < sigField v)

def isSignaling (v : F80) : Bool := isNaN v && !v.getLsbD 62

def isUnsupported (v : F80) : Bool := decide (1 ≤ expField v ∧ v.getLsbD 63 = false)

/-- The number that a finite datum stands for; a denormal's exponent reads as 1 (46_x87_numerics R342). -/
def value (v : F80) : ℚ :=
  (if negative v then -1 else 1) * (sigField v * 2 ^ (((max (expField v) 1 : Nat) : Int) - 16446))

/-- The zero, and the infinity, of a sign. -/
def zeroOf (s : Bool) : F80 := if s then 0x80000000000000000000 else 0

def infinityOf (s : Bool) : F80 := if s then 0xFFFF8000000000000000 else 0x7FFF8000000000000000

/-- An invalid operation: the real indefinite, `IE` (46_x87_numerics R353, R361). -/
def invalidResult : F80 × ExcFlags := (0xFFFFC000000000000000, { ExcFlags.none with IE := true })

/-- `Quiet(v)`, with `IE` where an operand is a signaling NaN (46_x87_numerics R353, R354). -/
def quieted (v : F80) (signaling : Bool) : F80 × ExcFlags := (v ||| 1 <<< 62, { ExcFlags.none with IE := signaling })

/-- `NaNResult(a, b)`: the only NaN; else the one with the larger significand; else the one with sign 0
(46_x87_numerics R354). -/
def nanOf (a b : F80) : F80 × ExcFlags :=
  quieted
    (if isNaN b = false then a
     else if isNaN a = false then b
     else if sigField a ≠ sigField b then (if sigField b < sigField a then a else b)
     else if negative a then b else a)
    (isSignaling a || isSignaling b)

/-- `Round(fmt, x)` of a positive rational as a relation: the rounded magnitude, none for the infinity, and the flags
(46_x87_numerics R348). -/
def Rounds (fmt : Fmt) (x : ℚ) (r : Option ℚ) (f : ExcFlags) : Prop :=
  ∃ e m : Int,
    let r0 : ℚ := m * 2 ^ (e - fmt.p + 1)
    let tiny : ℚ := 2 ^ (fmt.emin - fmt.p + 1)
    (2 : ℚ) ^ e ≤ x ∧ x < 2 ^ (e + 1) ∧ Nearest (x / 2 ^ (e - fmt.p + 1)) m
    ∧ if r0 < 2 ^ fmt.emin then
        ∃ k : Int, Nearest (x / tiny) k ∧ r = some (k * tiny)
          ∧ f = { ExcFlags.none with UE := decide (k * tiny ≠ x), PE := decide (k * tiny ≠ x) }
      else if 2 ^ (fmt.emax + 1) ≤ r0 then r = none ∧ f = { ExcFlags.none with OE := true, PE := true }
      else r = some r0 ∧ f = { ExcFlags.none with PE := decide (r0 ≠ x) }

/-- `v` is `Enc_x80(s, q)`, or the infinity of sign `s`: never a pseudo-denormal (46_x87_numerics R346). -/
def Encodes (s : Bool) (r : Option ℚ) (v : F80) : Prop :=
  match r with
  | none => v = infinityOf s
  | some q => isFinite v = true ∧ (expField v = 0 → v.getLsbD 63 = false) ∧ negative v = s ∧ |value v| = q

/-- The number `x`, not 0, rounded to a format, with sign `s`, and the flags of that beside those in `d`. -/
def RoundsTo (fmt : Fmt) (x : ℚ) (s : Bool) (d : ExcFlags) (res : F80 × ExcFlags) : Prop :=
  ∃ r f, Rounds fmt |x| r f ∧ Encodes s r res.1 ∧ res.2 = d.or f

/-- `DE` of two operands (46_x87_numerics R362). -/
def denormalFlag (a b : Operand) : ExcFlags := { ExcFlags.none with DE := a.denormal || b.denormal }

/-- A two-operand operation: an unsupported operand, then a NaN, come first (46_x87_numerics R354, R356); on numbers
it gives what `rest` says. -/
def NumericOp (f : Operand → Operand → F80 × ExcFlags) (rest : Operand → Operand → F80 × ExcFlags → Prop) : Prop :=
  ∀ a b : Operand,
    (isUnsupported a.x = true ∨ isUnsupported b.x = true → f a b = invalidResult)
    ∧ (isUnsupported a.x = false → isUnsupported b.x = false → isNaN a.x = true ∨ isNaN b.x = true →
      f a b = nanOf a.x b.x)
    ∧ (isFinite a.x = true ∨ isInfinite a.x = true → isFinite b.x = true ∨ isInfinite b.x = true → rest a b (f a b))

/-- A sum of two numbers, or a difference, where the second is taken with its sign inverted
(46_x87_numerics R349, R370, R371). -/
def SumOf (fmt : Fmt) (minus : Bool) (a b : Operand) (res : F80 × ExcFlags) : Prop :=
  let sb := negative b.x ^^ minus
  let x := value a.x + if minus then -value b.x else value b.x
  if isInfinite a.x = true ∧ isInfinite b.x = true ∧ negative a.x ≠ sb then res = invalidResult
  else if isInfinite a.x = true then res = (a.x, denormalFlag a b)
  else if isInfinite b.x = true then res = (infinityOf sb, denormalFlag a b)
  else if x = 0 then res = (zeroOf (negative a.x && sb), denormalFlag a b)
  else RoundsTo fmt x (decide (x < 0)) (denormalFlag a b) res

/-- A product of two numbers (46_x87_numerics R372). -/
def ProductOf (fmt : Fmt) (a b : Operand) (res : F80 × ExcFlags) : Prop :=
  let s := negative a.x ^^ negative b.x
  if (isZero a.x && isInfinite b.x || isInfinite a.x && isZero b.x) = true then res = invalidResult
  else if (isInfinite a.x || isInfinite b.x) = true then res = (infinityOf s, denormalFlag a b)
  else if (isZero a.x || isZero b.x) = true then res = (zeroOf s, denormalFlag a b)
  else RoundsTo fmt (value a.x * value b.x) s (denormalFlag a b) res

/-- A quotient of two numbers (46_x87_numerics R363, R373). -/
def QuotientOf (fmt : Fmt) (a b : Operand) (res : F80 × ExcFlags) : Prop :=
  let s := negative a.x ^^ negative b.x
  if (isZero a.x && isZero b.x || isInfinite a.x && isInfinite b.x) = true then res = invalidResult
  else if isInfinite a.x = true then res = (infinityOf s, denormalFlag a b)
  else if (isInfinite b.x || isZero a.x) = true then res = (zeroOf s, denormalFlag a b)
  else if isZero b.x = true then res = (infinityOf s, { denormalFlag a b with ZE := true })
  else RoundsTo fmt (value a.x / value b.x) s (denormalFlag a b) res

/-- `u` lies below `v`: minus infinity, then the finite numbers by value, then plus infinity (46_x87_numerics R375). -/
def Below (u v : F80) : Prop :=
  let side (w : F80) : Int := if isInfinite w then (if negative w then -1 else 1) else 0
  side u < side v ∨ (side u = 0 ∧ side v = 0 ∧ value u < value v)

/-- `Compare(a, b)` (46_x87_numerics R375). -/
def CompareOf (a b : Operand) (res : Cmp × ExcFlags) : Prop :=
  if (isUnsupported a.x || isUnsupported b.x || isNaN a.x || isNaN b.x) = true then
    res = (.un, { ExcFlags.none with IE := true })
  else res.2 = denormalFlag a b ∧ (res.1 = .lt ↔ Below a.x b.x) ∧ (res.1 = .gt ↔ Below b.x a.x) ∧ res.1 ≠ .un

/-- `n * 2^k` is the square root of `v` rounded to 64 significant bits, to nearest and ties to even: `k` is the place of the
last bit in the binade of the root, and each comparison with the root is one of squares (46_x87_numerics R348, R374). -/
def RootRounds (v : ℚ) (n k : Int) : Prop :=
  (2 ^ 63 * 2 ^ k : ℚ) ^ 2 ≤ v ∧ v < (2 ^ 64 * 2 ^ k : ℚ) ^ 2
  ∧ 2 ^ 63 ≤ n ∧ n ≤ 2 ^ 64
  ∧ ((2 * n - 1 : ℚ) * 2 ^ k) ^ 2 ≤ 4 * v ∧ 4 * v ≤ ((2 * n + 1 : ℚ) * 2 ^ k) ^ 2
  ∧ (4 * v = ((2 * n - 1 : ℚ) * 2 ^ k) ^ 2 ∨ 4 * v = ((2 * n + 1 : ℚ) * 2 ^ k) ^ 2 → n % 2 = 0)

/-- `Sqrt(v)` (46_x87_numerics R374): for a positive number, the exact root, correctly rounded. -/
def RootOf (v : F80) (res : F80 × ExcFlags) : Prop :=
  if isUnsupported v = true then res = invalidResult
  else if isNaN v = true then res = quieted v (isSignaling v)
  else if isZero v = true then res = (v, .none)
  else if negative v = true then res = invalidResult
  else if isInfinite v = true then res = (v, .none)
  else ∃ n k : Int, RootRounds (value v) n k ∧ Encodes false (some (n * 2 ^ k)) res.1
    ∧ res.2 = { ExcFlags.none with DE := isDenormal v, PE := decide ((n * 2 ^ k : ℚ) ^ 2 ≠ value v) }

/-- `RoundToInt(rc, v)` (46_x87_numerics R376). -/
def IntegralOf (rc : BitVec 2) (v : F80) (res : F80 × ExcFlags) : Prop :=
  if isUnsupported v = true then res = invalidResult
  else if isNaN v = true then res = quieted v (isSignaling v)
  else if (isZero v || isInfinite v) = true then res = (v, .none)
  else ∃ i : Int, RoundedInt rc (value v) i ∧ Encodes (negative v) (some |(i : ℚ)|) res.1
    ∧ res.2 = { ExcFlags.none with DE := isDenormal v, PE := decide ((i : ℚ) ≠ value v) }

/-- `ToInteger(k, rc, v)` (46_x87_numerics R345, R377). -/
def IntegerOf (k : Nat) (rc : BitVec 2) (v : F80) (res : Nat × ExcFlags) : Prop :=
  if isFinite v = false then res = (2 ^ (k - 1), { ExcFlags.none with IE := true })
  else ∃ i : Int, RoundedInt rc (value v) i ∧
    if i < -2 ^ (k - 1) ∨ 2 ^ (k - 1) ≤ i then res = (2 ^ (k - 1), { ExcFlags.none with IE := true })
    else res = ((BitVec.ofInt k i).toNat, { ExcFlags.none with PE := decide ((i : ℚ) ≠ value v) })

/-! ## Data of b32 and b64 by their bits -/

/-- The sign, the exponent field and the fraction of a datum of b32 or b64 (46_x87_numerics R343, R344). -/
def realParts (fmt : Fmt) (w : BitVec n) : Bool × Nat × Nat :=
  (w.msb, (w.extractLsb' (fmt.p - 1) fmt.ebits).toNat, (w.extractLsb' 0 (fmt.p - 1)).toNat)

/-- The exponent field of infinities and NaNs. -/
def realTop (fmt : Fmt) : Nat := 2 ^ fmt.ebits - 1

/-- The magnitude that an exponent field below the top and a fraction stand for (46_x87_numerics R343, R344). -/
def realValue (fmt : Fmt) (e f : Nat) : ℚ :=
  if e = 0 then f * 2 ^ (fmt.emin - fmt.p + 1) else (2 ^ (fmt.p - 1) + f) * 2 ^ ((e : Int) + fmt.emin - fmt.p)

/-- `Widen(fmt, w)` (46_x87_numerics R347), and whether the operand counts as denormal (R362, LOG 13). -/
def WidenOf (fmt : Fmt) (w : BitVec n) (a : Operand) : Prop :=
  let (s, e, f) := realParts fmt w
  if e = realTop fmt ∧ f ≠ 0 then
    negative a.x = s ∧ expField a.x = 0x7FFF ∧ sigField a.x = 2 ^ 63 ||| 2 ^ 62 ||| f * 2 ^ (64 - fmt.p)
    ∧ a.denormal = false ∧ a.exc = { ExcFlags.none with IE := decide (f < 2 ^ (fmt.p - 2)) }
  else if e = realTop fmt then a = { x := infinityOf s, denormal := false, exc := .none }
  else Encodes s (some (realValue fmt e f)) a.x ∧ a.denormal = decide (e = 0 ∧ f ≠ 0) ∧ a.exc = .none

/-- `Narrow(fmt, v)` to a format of `n` bits (46_x87_numerics R353, R355, R356, R378). -/
def NarrowOf (fmt : Fmt) (n : Nat) (v : F80) (res : Nat × ExcFlags) : Prop :=
  ∃ w : BitVec n, res.1 = w.toNat ∧
    if isUnsupported v = true then
      realParts fmt w = (true, realTop fmt, 2 ^ (fmt.p - 2)) ∧ res.2 = { ExcFlags.none with IE := true }
    else if isNaN v = true then
      realParts fmt w = (negative v, realTop fmt, (sigField v ||| 2 ^ 62) / 2 ^ (64 - fmt.p) % 2 ^ (fmt.p - 1))
      ∧ res.2 = { ExcFlags.none with IE := isSignaling v }
    else if isInfinite v = true then realParts fmt w = (negative v, realTop fmt, 0) ∧ res.2 = .none
    else if isZero v = true then realParts fmt w = (negative v, 0, 0) ∧ res.2 = .none
    else ∃ r, Rounds fmt |value v| r res.2 ∧ match r with
      | none => realParts fmt w = (negative v, realTop fmt, 0)
      | some q => ∃ e f, realParts fmt w = (negative v, e, f) ∧ e < realTop fmt ∧ realValue fmt e f = q

/-! ## Bytes that stand at `CS:IP` -/

/-- The bytes stand from `CS:IP` on, each in bounds; offsets wrap (30_encoding R122, 20_memory R83). -/
def standsAt (s : State) (bs : List Byte) : Prop :=
  ∀ k < bs.length, s.mem.inBounds s.sreg.cs (s.ip + BitVec.ofNat 16 k) = true
    ∧ bs[k]? = some (s.mem.peek s.sreg.cs (s.ip + BitVec.ofNat 16 k))

/-- The prefix bytes (30_encoding R123). -/
def prefixBytes : List Byte := [0x26, 0x2E, 0x36, 0x3E, 0xF0, 0xF2, 0xF3]

/-- The string opcodes, the only ones a repeat prefix may stand before (30_encoding R125). -/
def stringOpcodes : List Byte := [0xA4, 0xA5, 0xA6, 0xA7, 0xAA, 0xAB, 0xAC, 0xAD, 0xAE, 0xAF]

/-- The invalid first opcodes (30_encoding R140). -/
def invalidOpcodes : List Byte :=
  [0x0F, 0x27, 0x2F, 0x37, 0x3F, 0xD4, 0xD5, 0x63, 0x64, 0x65, 0x66, 0x67, 0x6C, 0x6D, 0x6E, 0x6F, 0xE4, 0xE5, 0xE6, 0xE7,
    0xEC, 0xED, 0xEE, 0xEF, 0x82, 0xD6, 0xF1]

/-- The second bytes that make an instruction inadmissible, by its opcode: the sub-encodings of 30_encoding R140, and for
`D8` to `DF` what 47_x87_instructions R390 does not admit. -/
def invalidSecond (opcode second : Byte) : Bool :=
  let mod := second.toNat / 64
  let reg := second.toNat / 8 % 8
  match opcode.toNat with
  | 0x8C => decide (4 ≤ reg)
  | 0x8E => decide (4 ≤ reg ∨ reg = 1)
  | 0x8D | 0xC4 | 0xC5 | 0x62 => decide (mod = 3)
  | 0x8F | 0xC6 | 0xC7 => decide (reg ≠ 0)
  | 0xC0 | 0xC1 | 0xD0 | 0xD1 | 0xD2 | 0xD3 => decide (reg = 6)
  | 0xF6 | 0xF7 => decide (reg = 1)
  | 0xFE => decide (2 ≤ reg)
  | 0xFF => decide (reg = 7 ∨ (mod = 3 ∧ (reg = 3 ∨ reg = 5)))
  | 0xD9 => if mod = 3 then
      decide ((0xD1 ≤ second ∧ second ≤ 0xDF)
        ∨ second ∈ ([0xE2, 0xE3, 0xE6, 0xE7, 0xEF, 0xF0, 0xF1, 0xF2, 0xF3, 0xF4, 0xF5, 0xF8, 0xF9, 0xFB, 0xFD, 0xFE, 0xFF] : List Byte))
    else decide (reg ∈ [1, 4, 6])
  | 0xDA => decide (mod = 3)
  | 0xDB => if mod = 3 then decide (second ≠ 0xE2 ∧ second ≠ 0xE3) else decide (reg ∈ [1, 4, 6])
  | 0xDC => decide (0xD0 ≤ second ∧ second ≤ 0xDF)
  | 0xDD => if mod = 3 then decide ((0xC8 ≤ second ∧ second ≤ 0xCF) ∨ 0xE0 ≤ second) else decide (reg ∈ [1, 4, 5, 6])
  | 0xDE => decide ((0xD0 ≤ second ∧ second ≤ 0xD8) ∨ (0xDA ≤ second ∧ second ≤ 0xDF))
  | 0xDF => if mod = 3 then decide (second ≠ 0xE0) else decide (reg ∈ [1, 4, 6])
  | _ => false

end Sys2Proof.Spec

open Sys2Proof Sys2Proof.Machine Sys2Proof.Spec

/-! ## Arithmetic and logic -/

/-- `ADD` and `ADC`, every form: the wrapped sum is written, the six status flags as 10_state R43 gives them. -/
def Obligations.AddAdc : Prop :=
  NineForms (op8 (· + ·) (sumFlags · · false)) (op16 (· + ·) (sumFlags · · false)) .addRm8R8 .addRm16R16 .addR8Rm8
      .addR16Rm16 .addAlImm8 .addAxImm16 .addRm8Imm8 .addRm16Imm16 .addRm16Imm8
    ∧ NineForms
      (fun s => op8 (fun a b => a + b + BitVec.ofNat 8 s.flags.CF.toNat) (sumFlags · · s.flags.CF) s)
      (fun s => op16 (fun a b => a + b + BitVec.ofNat 16 s.flags.CF.toNat) (sumFlags · · s.flags.CF) s)
      .adcRm8R8 .adcRm16R16 .adcR8Rm8 .adcR16Rm16 .adcAlImm8 .adcAxImm16 .adcRm8Imm8 .adcRm16Imm16 .adcRm16Imm8

/-- `SUB`, `SBB`, `CMP`, every form: the wrapped difference is written, by `CMP` nothing; the six status flags as 10_state
R44 gives them. -/
def Obligations.SubSbbCmp : Prop :=
  NineForms (op8 (· - ·) (diffFlags · · false)) (op16 (· - ·) (diffFlags · · false)) .subRm8R8 .subRm16R16 .subR8Rm8
      .subR16Rm16 .subAlImm8 .subAxImm16 .subRm8Imm8 .subRm16Imm16 .subRm16Imm8
    ∧ NineForms
      (fun s => op8 (fun a b => a - b - BitVec.ofNat 8 s.flags.CF.toNat) (diffFlags · · s.flags.CF) s)
      (fun s => op16 (fun a b => a - b - BitVec.ofNat 16 s.flags.CF.toNat) (diffFlags · · s.flags.CF) s)
      .sbbRm8R8 .sbbRm16R16 .sbbR8Rm8 .sbbR16Rm16 .sbbAlImm8 .sbbAxImm16 .sbbRm8Imm8 .sbbRm16Imm16 .sbbRm16Imm8
    ∧ NineForms (flagsOnly8 (diffFlags · · false)) (flagsOnly16 (diffFlags · · false)) .cmpRm8R8 .cmpRm16R16 .cmpR8Rm8
      .cmpR16Rm16 .cmpAlImm8 .cmpAxImm16 .cmpRm8Imm8 .cmpRm16Imm16 .cmpRm16Imm8

/-- `AND`, `OR`, `XOR`, `TEST`, every form: the result is written, by `TEST` nothing; `CF` and `OF` are 0, `AF` is what
`UF` gives, whatever it is (42_logic R221 to R223, R225). -/
def Obligations.AndOrXorTest : Prop :=
  NineForms (op8 (· &&& ·) (fun a b => bitFlags .AND a b (a &&& b))) (op16 (· &&& ·) (fun a b => bitFlags .AND a b (a &&& b)))
      .andRm8R8 .andRm16R16 .andR8Rm8 .andR16Rm16 .andAlImm8 .andAxImm16 .andRm8Imm8 .andRm16Imm16 .andRm16Imm8
    ∧ NineForms (op8 (· ||| ·) (fun a b => bitFlags .OR a b (a ||| b))) (op16 (· ||| ·) (fun a b => bitFlags .OR a b (a ||| b)))
      .orRm8R8 .orRm16R16 .orR8Rm8 .orR16Rm16 .orAlImm8 .orAxImm16 .orRm8Imm8 .orRm16Imm16 .orRm16Imm8
    ∧ NineForms (op8 (· ^^^ ·) (fun a b => bitFlags .XOR a b (a ^^^ b))) (op16 (· ^^^ ·) (fun a b => bitFlags .XOR a b (a ^^^ b)))
      .xorRm8R8 .xorRm16R16 .xorR8Rm8 .xorR16Rm16 .xorAlImm8 .xorAxImm16 .xorRm8Imm8 .xorRm16Imm16 .xorRm16Imm8
    ∧ (let byte := flagsOnly8 (fun a b => bitFlags .TEST a b (a &&& b))
  let word := flagsOnly16 (fun a b => bitFlags .TEST a b (a &&& b))
  ∀ s : State,
    (∀ d r, s.operandOk d 1 = true → exec (.testRm8R8 d r) s = .next (byte s (s.loc d) (s.r8 r)))
    ∧ (∀ d r, s.operandOk d 2 = true → exec (.testRm16R16 d r) s = .next (word s (s.loc d) (s.r16 r)))
    ∧ (∀ v, exec (.testAlImm8 v) s = .next (byte s (.reg .al) v))
    ∧ (∀ v, exec (.testAxImm16 v) s = .next (word s (.reg .ax) v))
    ∧ (∀ d v, s.operandOk d 1 = true → exec (.testRm8Imm8 d v) s = .next (byte s (s.loc d) v))
    ∧ (∀ d v, s.operandOk d 2 = true → exec (.testRm16Imm16 d v) s = .next (word s (s.loc d) v)))

/-- `INC`, `DEC`, `NEG`, `NOT`, every form: `INC` and `DEC` keep `CF`, `NOT` writes no flag
(41_arithmetic R196 to R198, 42_logic R224). -/
def Obligations.IncDecNegNot : Prop :=
  ∀ s : State,
    (let keepCF (x : StatusFlags) : Flags := { s.flags.withStatus x with CF := s.flags.CF }
     let inc8 (l : Loc R8) : State :=
       { with8 s l (val8 s l + 1) with flags := keepCF (sumFlags (val8 s l) 1 false) }
     let inc16 (l : Loc R16) : State :=
       { with16 s l (val16 s l + 1) with flags := keepCF (sumFlags (val16 s l) 1 false) }
     let dec8 (l : Loc R8) : State :=
       { with8 s l (val8 s l - 1) with flags := keepCF (diffFlags (val8 s l) 1 false) }
     let dec16 (l : Loc R16) : State :=
       { with16 s l (val16 s l - 1) with flags := keepCF (diffFlags (val16 s l) 1 false) }
     let neg8 (l : Loc R8) : State :=
       { with8 s l (-val8 s l) with flags := s.flags.withStatus (diffFlags 0 (val8 s l) false) }
     let neg16 (l : Loc R16) : State :=
       { with16 s l (-val16 s l) with flags := s.flags.withStatus (diffFlags 0 (val16 s l) false) }
     (∀ r, exec (.incR16 r) s = .next (inc16 (.reg r)) ∧ exec (.decR16 r) s = .next (dec16 (.reg r)))
     ∧ (∀ d : Rm8, s.operandOk d 1 = true →
          exec (.incRm8 d) s = .next (inc8 (s.loc d)) ∧ exec (.decRm8 d) s = .next (dec8 (s.loc d))
          ∧ exec (.negRm8 d) s = .next (neg8 (s.loc d))
          ∧ exec (.notRm8 d) s = .next (with8 s (s.loc d) (~~~ val8 s (s.loc d))))
     ∧ (∀ d : Rm16, s.operandOk d 2 = true →
          exec (.incRm16 d) s = .next (inc16 (s.loc d)) ∧ exec (.decRm16 d) s = .next (dec16 (s.loc d))
          ∧ exec (.negRm16 d) s = .next (neg16 (s.loc d))
          ∧ exec (.notRm16 d) s = .next (with16 s (s.loc d) (~~~ val16 s (s.loc d)))))

/-- `MUL` and `IMUL`, every form: the product in double width, or its low word; `CF` and `OF` say whether the high half
is more than the extension of the low one; the other status flags are what `UF` gives (41_arithmetic R199 to R201).
Which operands `UF` takes for `IMUL` is the model's reading (one operand) and the model's choice (three operands): LOG 4. -/
def Obligations.MulImul : Prop :=
  ∀ s : State,
    (let flags (m : UfMnemonic) (n : Nat) (a b : Nat) (high : Bool) : Flags :=
       s.flags.withStatus { Config.UF m n a b false with CF := high, OF := high }
     (∀ d : Rm8, s.operandOk d 1 = true →
       let a := s.r8 .al
       let b := val8 s (s.loc d)
       let p : Word := a.setWidth 16 * b.setWidth 16
       let q : Word := a.signExtend 16 * b.signExtend 16
       exec (.mulRm8 d) s = .next { s with
         gpr := { s.gpr with ax := p }, flags := flags .MUL 8 a.toNat b.toNat (decide (highByte p ≠ 0)) }
       ∧ exec (.imulRm8 d) s = .next { s with
         gpr := { s.gpr with ax := q }
         flags := flags .IMUL 8 a.toNat b.toNat (decide (q ≠ (lowByte q).signExtend 16)) })
     ∧ (∀ d : Rm16, s.operandOk d 2 = true →
       let a := s.gpr.ax
       let b := val16 s (s.loc d)
       let p : BitVec 32 := a.setWidth 32 * b.setWidth 32
       let q : BitVec 32 := a.signExtend 32 * b.signExtend 32
       exec (.mulRm16 d) s = .next { s with
         gpr := { s.gpr with ax := p.extractLsb' 0 16, dx := p.extractLsb' 16 16 }
         flags := flags .MUL 16 a.toNat b.toNat (decide (p.extractLsb' 16 16 ≠ 0)) }
       ∧ exec (.imulRm16 d) s = .next { s with
         gpr := { s.gpr with ax := q.extractLsb' 0 16, dx := q.extractLsb' 16 16 }
         flags := flags .IMUL 16 a.toNat b.toNat (decide (q ≠ (q.extractLsb' 0 16).signExtend 32)) })
     ∧ (∀ (r : R16) (x : Rm16), s.operandOk x 2 = true →
       let a := val16 s (s.loc x)
       let p (b : Word) : BitVec 32 := a.signExtend 32 * b.signExtend 32
       let t (b : Word) : State := { s with
         gpr := s.gpr.set r ((p b).extractLsb' 0 16)
         flags := flags .IMUL 16 a.toNat b.toNat (decide (p b ≠ ((p b).extractLsb' 0 16).signExtend 32)) }
       (∀ imm, exec (.imulR16Rm16Imm16 r x imm) s = .next (t imm))
       ∧ ∀ imm : Byte, exec (.imulR16Rm16Imm8 r x imm) s = .next (t (imm.signExtend 16))))

/-- `DIV` and `IDIV`, both widths. With a quotient in range: quotient and remainder written, the status flags what `UF`
gives. With a zero divisor or a quotient out of range: nothing written, vector 0 handed to the host, on the state
whose `IP` is `next_ip`, and the instruction still answers a next state (41_arithmetic R202, R203, R205). -/
def Obligations.DivIdiv : Prop :=
  ∀ s : State,
    (∀ d : Rm8, s.operandOk d 1 = true →
      let b := val8 s (s.loc d)
      let x := s.gpr.ax
      let t (m : UfMnemonic) (q r : Byte) (u v : Int) : State := { s with
        gpr := { s.gpr with ax := r ++ q }, flags := s.flags.withStatus (Config.UF m 8 u v false) }
      ((highByte x).toNat < b.toNat → exec (.divRm8 d) s =
        .next (t .DIV (BitVec.ofNat 8 (x.toNat / b.toNat)) (BitVec.ofNat 8 (x.toNat % b.toNat)) x.toNat b.toNat))
      ∧ (b.toNat ≤ (highByte x).toNat → exec (.divRm8 d) s = .next (s.hostInterrupt 0))
      ∧ (∀ q r : Int, Divides x.toInt b.toInt q r → outside 8 q = false → exec (.idivRm8 d) s =
        .next (t .IDIV (BitVec.ofInt 8 q) (BitVec.ofInt 8 r) x.toInt b.toInt))
      ∧ (b = 0 → exec (.idivRm8 d) s = .next (s.hostInterrupt 0))
      ∧ (∀ q r : Int, Divides x.toInt b.toInt q r → outside 8 q = true →
        exec (.idivRm8 d) s = .next (s.hostInterrupt 0)))
    ∧ (∀ d : Rm16, s.operandOk d 2 = true →
      let b := val16 s (s.loc d)
      let x : BitVec 32 := s.gpr.dx ++ s.gpr.ax
      let t (m : UfMnemonic) (q r : Word) (u v : Int) : State := { s with
        gpr := { s.gpr with ax := q, dx := r }, flags := s.flags.withStatus (Config.UF m 16 u v false) }
      (s.gpr.dx.toNat < b.toNat → exec (.divRm16 d) s =
        .next (t .DIV (BitVec.ofNat 16 (x.toNat / b.toNat)) (BitVec.ofNat 16 (x.toNat % b.toNat)) x.toNat b.toNat))
      ∧ (b.toNat ≤ s.gpr.dx.toNat → exec (.divRm16 d) s = .next (s.hostInterrupt 0))
      ∧ (∀ q r : Int, Divides x.toInt b.toInt q r → outside 16 q = false → exec (.idivRm16 d) s =
        .next (t .IDIV (BitVec.ofInt 16 q) (BitVec.ofInt 16 r) x.toInt b.toInt))
      ∧ (b = 0 → exec (.idivRm16 d) s = .next (s.hostInterrupt 0))
      ∧ (∀ q r : Int, Divides x.toInt b.toInt q r → outside 16 q = true →
        exec (.idivRm16 d) s = .next (s.hostInterrupt 0)))

/-! ## Shifts and rotates -/

/-- `SHL`, `SHR`, `SAR`, every form and every count (42_logic R226 to R229). -/
def Obligations.Shifts : Prop :=
  ShiftForms shl .shlRm8Imm8 .shlRm16Imm8 .shlRm8One .shlRm16One .shlRm8Cl .shlRm16Cl
    ∧ ShiftForms shr .shrRm8Imm8 .shrRm16Imm8 .shrRm8One .shrRm16One .shrRm8Cl .shrRm16Cl
    ∧ ShiftForms sar .sarRm8Imm8 .sarRm16Imm8 .sarRm8One .sarRm16One .sarRm8Cl .sarRm16Cl

/-- `ROL`, `ROR`, `RCL`, `RCR`, every form and every count (42_logic R226, R230 to R233). -/
def Obligations.Rotates : Prop :=
  ShiftForms rol .rolRm8Imm8 .rolRm16Imm8 .rolRm8One .rolRm16One .rolRm8Cl .rolRm16Cl
    ∧ ShiftForms ror .rorRm8Imm8 .rorRm16Imm8 .rorRm8One .rorRm16One .rorRm8Cl .rorRm16Cl
    ∧ ShiftForms rcl .rclRm8Imm8 .rclRm16Imm8 .rclRm8One .rclRm16One .rclRm8Cl .rclRm16Cl
    ∧ ShiftForms rcr .rcrRm8Imm8 .rcrRm16Imm8 .rcrRm8One .rcrRm16One .rcrRm8Cl .rcrRm16Cl

/-! ## Data movement -/

/-- `MOV`, the twelve general forms (40_data_movement R171), and those to and from a segment register: the selector is stored
and nothing is checked (R172). -/
def Obligations.MoveData : Prop :=
  ∀ s : State,
    (∀ (d : Rm8) (r : R8) (v : Byte), s.operandOk d 1 = true →
      exec (.movRm8R8 d r) s = .next (with8 s (s.loc d) (s.r8 r))
      ∧ exec (.movR8Rm8 r d) s = .next (s.setR8 r (val8 s (s.loc d)))
      ∧ exec (.movRm8Imm8 d v) s = .next (with8 s (s.loc d) v))
    ∧ (∀ (d : Rm16) (r : R16) (v : Word), s.operandOk d 2 = true →
      exec (.movRm16R16 d r) s = .next (with16 s (s.loc d) (s.r16 r))
      ∧ exec (.movR16Rm16 r d) s = .next (s.setR16 r (val16 s (s.loc d)))
      ∧ exec (.movRm16Imm16 d v) s = .next (with16 s (s.loc d) v)
      ∧ exec (.movRm16Es d) s = .next (with16 s (s.loc d) s.sreg.es)
      ∧ exec (.movRm16Cs d) s = .next (with16 s (s.loc d) s.sreg.cs)
      ∧ exec (.movRm16Ss d) s = .next (with16 s (s.loc d) s.sreg.ss)
      ∧ exec (.movRm16Ds d) s = .next (with16 s (s.loc d) s.sreg.ds)
      ∧ exec (.movEsRm16 d) s = .next { s with sreg := { s.sreg with es := val16 s (s.loc d) } }
      ∧ exec (.movSsRm16 d) s = .next { s with sreg := { s.sreg with ss := val16 s (s.loc d) } }
      ∧ exec (.movDsRm16 d) s = .next { s with sreg := { s.sreg with ds := val16 s (s.loc d) } })
    ∧ (∀ (g : SReg) (off : Word), s.readable (s.seg g) off 1 = true →
      exec (.movAlMoffs8 g off) s = .next (s.setR8 .al (s.mem.peek (s.seg g) off))
      ∧ exec (.movMoffs8Al g off) s = .next (with8 s (.mem (s.seg g) off) (lowByte s.gpr.ax)))
    ∧ (∀ (g : SReg) (off : Word), s.readable (s.seg g) off 2 = true →
      exec (.movAxMoffs16 g off) s = .next (s.setR16 .ax (memWord s (s.seg g) off))
      ∧ exec (.movMoffs16Ax g off) s = .next (with16 s (.mem (s.seg g) off) s.gpr.ax))
    ∧ (∀ r v, exec (.movR8Imm8 r v) s = .next (s.setR8 r v))
    ∧ (∀ r v, exec (.movR16Imm16 r v) s = .next (s.setR16 r v))

/-- `XCHG`, every form, and `NOP`: both operands read, then both written (40_data_movement R173, R174). -/
def Obligations.Exchange : Prop :=
  ∀ s : State,
    (∀ (r : R8) (x : Rm8), s.operandOk x 1 = true →
      exec (.xchgR8Rm8 r x) s = .next (with8 (with8 s (.reg r) (val8 s (s.loc x))) (s.loc x) (s.r8 r)))
    ∧ (∀ (r : R16) (x : Rm16), s.operandOk x 2 = true →
      exec (.xchgR16Rm16 r x) s = .next (with16 (with16 s (.reg r) (val16 s (s.loc x))) (s.loc x) (s.r16 r)))
    ∧ exec .xchgAxCx s = .next { s with gpr := { s.gpr with ax := s.gpr.cx, cx := s.gpr.ax } }
    ∧ exec .xchgAxDx s = .next { s with gpr := { s.gpr with ax := s.gpr.dx, dx := s.gpr.ax } }
    ∧ exec .xchgAxBx s = .next { s with gpr := { s.gpr with ax := s.gpr.bx, bx := s.gpr.ax } }
    ∧ exec .xchgAxSp s = .next { s with gpr := { s.gpr with ax := s.gpr.sp, sp := s.gpr.ax } }
    ∧ exec .xchgAxBp s = .next { s with gpr := { s.gpr with ax := s.gpr.bp, bp := s.gpr.ax } }
    ∧ exec .xchgAxSi s = .next { s with gpr := { s.gpr with ax := s.gpr.si, si := s.gpr.ax } }
    ∧ exec .xchgAxDi s = .next { s with gpr := { s.gpr with ax := s.gpr.di, di := s.gpr.ax } }
    ∧ exec .nop s = .next s

/-- `LEA`, every effective address of the table of 30_encoding R130: the sum of the registers and the displacement
modulo 65536; memory is not touched, whatever the segment (40_data_movement R175). -/
def Obligations.LoadEffectiveAddress : Prop :=
  ∀ (s : State) (r : R16) (g : SReg) (e : Ea),
    let sums : Base → Nat
      | .bxsi => s.gpr.bx.toNat + s.gpr.si.toNat
      | .bxdi => s.gpr.bx.toNat + s.gpr.di.toNat
      | .bpsi => s.gpr.bp.toNat + s.gpr.si.toNat
      | .bpdi => s.gpr.bp.toNat + s.gpr.di.toNat
      | .si => s.gpr.si.toNat
      | .di => s.gpr.di.toNat
      | .bp => s.gpr.bp.toNat
      | .bx => s.gpr.bx.toNat
    let off : Int := match e with
      | .plain b => sums b
      | .disp8 b d => sums b + d.toInt
      | .disp16 b d => sums b + d.toNat
      | .direct d => d.toNat
    exec (.leaR16M r ⟨g, e⟩) s = .next (s.setR16 r (BitVec.ofInt 16 (off % 65536)))

/-- `LDS`, `LES`, `XLAT` (40_data_movement R176 to R178): the offset word goes to the register, the selector word after
it to the segment register; `XLAT` adds `AL` unsigned. -/
def Obligations.LoadFarTranslate : Prop :=
  ∀ s : State,
    (∀ (r : R16) (m : Mem), s.readable (s.sel m) (s.off m) 4 = true →
      exec (.ldsR16M1616 r m) s = .next { s with
        gpr := s.gpr.set r (memWord s (s.sel m) (s.off m))
        sreg := { s.sreg with ds := memWord s (s.sel m) (s.off m + 2) } }
      ∧ exec (.lesR16M1616 r m) s = .next { s with
        gpr := s.gpr.set r (memWord s (s.sel m) (s.off m))
        sreg := { s.sreg with es := memWord s (s.sel m) (s.off m + 2) } })
    ∧ (∀ g : SReg,
      let at_ : Word := BitVec.ofNat 16 (s.gpr.bx.toNat + s.gpr.ax.toNat % 256)
      s.readable (s.seg g) at_ 1 = true → exec (.xlat g) s = .next (s.setR8 .al (s.mem.peek (s.seg g) at_)))

/-- `LAHF`, `SAHF`, `CBW`, `CWD` (40_data_movement R179 to R182). -/
def Obligations.FlagsByteSignExtend : Prop :=
  ∀ s : State,
    exec .lahf s = .next { s with gpr := { s.gpr with
      ax := BitVec.ofNat 16 (256 * (imageOf s.flags % 256) + s.gpr.ax.toNat % 256) } }
    ∧ exec .sahf s = .next { s with flags := { s.flags with
      SF := s.gpr.ax.getLsbD 15, ZF := s.gpr.ax.getLsbD 14, AF := s.gpr.ax.getLsbD 12
      PF := s.gpr.ax.getLsbD 10, CF := s.gpr.ax.getLsbD 8 } }
    ∧ exec .cbw s = .next { s with gpr := { s.gpr with
      ax := if s.gpr.ax.toNat % 256 < 128 then BitVec.ofNat 16 (s.gpr.ax.toNat % 256)
            else BitVec.ofNat 16 (0xFF00 + s.gpr.ax.toNat % 256) } }
    ∧ exec .cwd s = .next { s with gpr := { s.gpr with dx := if 0x8000 ≤ s.gpr.ax.toNat then 0xFFFF else 0 } }

/-! ## Control transfer -/

/-- The five forms of `JMP`; a far `JMP` is never handed to the host (43_control_transfer R251 to R254). -/
def Obligations.Jumps : Prop :=
  ∀ s : State,
    (∀ rel : Byte, exec (.jmpRel8 rel) s = .next { s with ip := BitVec.ofInt 16 (s.ip.toNat + rel.toInt) })
    ∧ (∀ rel : Word, exec (.jmpRel16 rel) s = .next { s with ip := BitVec.ofInt 16 (s.ip.toNat + rel.toInt) })
    ∧ (∀ d : Rm16, s.operandOk d 2 = true → exec (.jmpRm16 d) s = .next { s with ip := val16 s (s.loc d) })
    ∧ (∀ off sel, exec (.jmpPtr1616 off sel) s = .next { s with sreg := { s.sreg with cs := sel }, ip := off })
    ∧ (∀ m : Mem, s.readable (s.sel m) (s.off m) 4 = true → exec (.jmpM1616 m) s = .next { s with
        sreg := { s.sreg with cs := memWord s (s.sel m) (s.off m + 2) }, ip := memWord s (s.sel m) (s.off m) })

/-- The sixteen conditions of `Jcc`, and the target (43_control_transfer R255). -/
def Obligations.ConditionalJumps : Prop :=
  ∀ (s : State) (rel : Byte),
    let f := s.flags
    ∀ x ∈ ([(Instr.joRel8, f.OF = true), (.jnoRel8, f.OF = false), (.jbRel8, f.CF = true), (.jnbRel8, f.CF = false),
        (.jzRel8, f.ZF = true), (.jnzRel8, f.ZF = false), (.jbeRel8, f.CF = true ∨ f.ZF = true),
        (.jnbeRel8, f.CF = false ∧ f.ZF = false), (.jsRel8, f.SF = true), (.jnsRel8, f.SF = false),
        (.jpRel8, f.PF = true), (.jnpRel8, f.PF = false), (.jlRel8, f.SF ≠ f.OF), (.jnlRel8, f.SF = f.OF),
        (.jleRel8, f.ZF = true ∨ f.SF ≠ f.OF), (.jnleRel8, f.ZF = false ∧ f.SF = f.OF)] :
        List ((Byte → Instr) × Prop)),
      (x.2 → exec (x.1 rel) s = .next { s with ip := BitVec.ofInt 16 (s.ip.toNat + rel.toInt) })
      ∧ (¬x.2 → exec (x.1 rel) s = .next s)

/-- `LOOP`, `LOOPE`, `LOOPNE`, `JCXZ` (43_control_transfer R256 to R259). -/
def Obligations.Loops : Prop :=
  ∀ (s : State) (rel : Byte),
    let target : Word := BitVec.ofInt 16 (s.ip.toNat + rel.toInt)
    let t (taken : Bool) : State := { countDown s with ip := if taken then target else s.ip }
    exec (.loopRel8 rel) s = .next (t (decide (s.gpr.cx ≠ 1)))
    ∧ exec (.loopeRel8 rel) s = .next (t (decide (s.gpr.cx ≠ 1 ∧ s.flags.ZF = true)))
    ∧ exec (.loopneRel8 rel) s = .next (t (decide (s.gpr.cx ≠ 1 ∧ s.flags.ZF = false)))
    ∧ exec (.jcxzRel8 rel) s = .next { s with ip := if s.gpr.cx = 0 then target else s.ip }

/-- `CALL`, the four forms. Near: the next offset is pushed, an indirect target is read before the push. Far: the selector,
then the next offset, pushed; or, for a designated selector, the state handed to the host with nothing pushed
(43_control_transfer R260 to R263, R266). -/
def Obligations.Calls : Prop :=
  (∀ s : State, s.canPush 1 = true →
      (∀ rel : Word, exec (.callRel16 rel) s = .next { pushed s s.ip with ip := BitVec.ofInt 16 (s.ip.toNat + rel.toInt) })
      ∧ (∀ d : Rm16, s.operandOk d 2 = true →
        exec (.callRm16 d) s = .next { pushed s s.ip with ip := val16 s (s.loc d) }))
  ∧ ∀ (s : State) (off sel : Word),
      let called : State :=
        let t := pushed (pushed s s.sreg.cs) s.ip
        { t with sreg := { t.sreg with cs := sel }, ip := off }
      ((sel ∉ s.params.hostFarSelectors → s.canPush 2 = true → exec (.callPtr1616 off sel) s = .next called)
        ∧ (sel ∈ s.params.hostFarSelectors → exec (.callPtr1616 off sel) s = .next (s.hostFarCall sel off)))
      ∧ ∀ m : Mem, s.readable (s.sel m) (s.off m) 4 = true → off = memWord s (s.sel m) (s.off m) →
          sel = memWord s (s.sel m) (s.off m + 2) →
        (sel ∉ s.params.hostFarSelectors → s.canPush 2 = true → exec (.callM1616 m) s = .next called)
        ∧ (sel ∈ s.params.hostFarSelectors → exec (.callM1616 m) s = .next (s.hostFarCall sel off))

/-- `RET`, `RETF`, `IRET`: one, two, three words popped; the adjustment of `SP` is not checked
(43_control_transfer R264, R265, R270). -/
def Obligations.Returns : Prop :=
  ∀ s : State,
    (s.canPop 1 = true →
      exec .ret s = .next { dropped s 1 with ip := stackTop s 0 }
      ∧ ∀ imm, exec (.retImm16 imm) s = .next { withSp s (s.gpr.sp + 2 + imm) with ip := stackTop s 0 })
    ∧ (s.canPop 2 = true →
      exec .retf s = .next { dropped s 2 with sreg := { s.sreg with cs := stackTop s 1 }, ip := stackTop s 0 }
      ∧ ∀ imm, exec (.retfImm16 imm) s = .next { withSp s (s.gpr.sp + 4 + imm) with
          sreg := { s.sreg with cs := stackTop s 1 }, ip := stackTop s 0 })
    ∧ (s.canPop 3 = true →
      exec .iret s = .next { dropped s 3 with
        sreg := { s.sreg with cs := stackTop s 1 }, ip := stackTop s 0, flags := flagsOf (stackTop s 2) })

/-- `INT`, `INT3`, `INTO`, `BOUND`: the state, `IP` already at the next instruction, is handed to the host with the
vector, and what comes back is the next state; nothing is pushed (43_control_transfer R267 to R269, R271). -/
def Obligations.SoftwareInterrupts : Prop :=
  ∀ s : State,
    (∀ v, exec (.intImm8 v) s = .next (s.hostInterrupt v))
    ∧ exec .int3 s = .next (s.hostInterrupt 3)
    ∧ (s.flags.OF = true → exec .into s = .next (s.hostInterrupt 4))
    ∧ (s.flags.OF = false → exec .into s = .next s)
    ∧ ∀ (r : R16) (m : Mem), s.readable (s.sel m) (s.off m) 4 = true →
        let lo := (memWord s (s.sel m) (s.off m)).toInt
        let hi := (memWord s (s.sel m) (s.off m + 2)).toInt
        (lo ≤ (s.r16 r).toInt ∧ (s.r16 r).toInt ≤ hi → exec (.boundR16M1616 r m) s = .next s)
        ∧ (¬(lo ≤ (s.r16 r).toInt ∧ (s.r16 r).toInt ≤ hi) → exec (.boundR16M1616 r m) s = .next (s.hostInterrupt 5))

/-! ## Stack -/

/-- `PUSH`, every form, and `PUSHF`: the value is read before `SP` moves (44_stack R290, R294). -/
def Obligations.Pushes : Prop :=
  ∀ s : State, s.canPush 1 = true →
    (∀ r, exec (.pushR16 r) s = .next (pushed s (s.r16 r)))
    ∧ (∀ d : Rm16, s.operandOk d 2 = true → exec (.pushRm16 d) s = .next (pushed s (val16 s (s.loc d))))
    ∧ exec .pushEs s = .next (pushed s s.sreg.es) ∧ exec .pushCs s = .next (pushed s s.sreg.cs)
    ∧ exec .pushSs s = .next (pushed s s.sreg.ss) ∧ exec .pushDs s = .next (pushed s s.sreg.ds)
    ∧ (∀ v, exec (.pushImm16 v) s = .next (pushed s v))
    ∧ (∀ v : Byte, exec (.pushImm8 v) s = .next (pushed s (v.signExtend 16)))
    ∧ exec .pushf s = .next (pushed s (BitVec.ofNat 16 (imageOf s.flags)))

/-- `POP`, every form, and `POPF`: `SP` moves, then the destination is written (44_stack R291, R295). -/
def Obligations.Pops : Prop :=
  ∀ s : State, s.canPop 1 = true →
    (∀ r, exec (.popR16 r) s = .next ((dropped s 1).setR16 r (stackTop s 0)))
    ∧ (∀ d : Rm16, s.operandOk d 2 = true →
      exec (.popRm16 d) s = .next (with16 (dropped s 1) (s.loc d) (stackTop s 0)))
    ∧ exec .popEs s = .next { dropped s 1 with sreg := { s.sreg with es := stackTop s 0 } }
    ∧ exec .popSs s = .next { dropped s 1 with sreg := { s.sreg with ss := stackTop s 0 } }
    ∧ exec .popDs s = .next { dropped s 1 with sreg := { s.sreg with ds := stackTop s 0 } }
    ∧ exec .popf s = .next { dropped s 1 with flags := flagsOf (stackTop s 0) }

/-- `PUSHA` and `POPA`: the eight pushes in order, with the `SP` before the instruction; the seven pops, the saved `SP`
skipped, not read and not checked; and the second after the first restores all eight registers
(44_stack R292, R293). -/
def Obligations.PushAllPopAll : Prop :=
  (∀ s : State,
    (s.canPush 8 = true → exec .pusha s = .next
      ([s.gpr.ax, s.gpr.cx, s.gpr.dx, s.gpr.bx, s.gpr.sp, s.gpr.bp, s.gpr.si, s.gpr.di].foldl pushed s))
    ∧ (([0, 1, 2, 4, 5, 6, 7].all s.canPopAt) = true → exec .popa s = .next { s with gpr :=
        { di := stackTop s 0, si := stackTop s 1, bp := stackTop s 2, bx := stackTop s 4, dx := stackTop s 5
          cx := stackTop s 6, ax := stackTop s 7, sp := s.gpr.sp + 16 } }))
  ∧ ∀ s t : State, s.mem.wf = true → exec .pusha s = .next t → exec .popa t = .next { t with gpr := s.gpr }

/-- `ENTER` at every level, and `LEAVE` (44_stack R296, R297): the copies of enclosing frame pointers are read from
below the old `BP`, each after the push before it. -/
def Obligations.EnterLeave : Prop :=
  ∀ s : State,
    (∀ (size : Word) (imm : Byte),
      let level := imm.toNat % 32
      let frame := s.gpr.sp - 2
      s.canPush (level + 1) = true →
      (∀ j, 1 ≤ j → j < level → s.readable s.sreg.ss (s.gpr.bp - BitVec.ofNat 16 (2 * j)) 2 = true) →
      let t := pushed s s.gpr.bp
      let u := if level = 0 then t else pushed (framesCopied s.gpr.bp (level - 1) t) frame
      exec (.enterImm16Imm8 size imm) s = .next { u with gpr := { u.gpr with bp := frame, sp := u.gpr.sp - size } })
    ∧ ((withSp s s.gpr.bp).canPop 1 = true → exec .leave s = .next { s with gpr := { s.gpr with
        sp := s.gpr.bp + 2, bp := memWord s s.sreg.ss s.gpr.bp } })

/-! ## Strings, flag control -/

/-- One iteration of each string instruction (45_string_flag_misc R311 to R316). -/
def Obligations.StringIterations : Prop :=
  ∀ (s : State) (g : SReg),
    let src := s.seg g
    let si := s.gpr.si
    let di := s.gpr.di
    (s.readable src si 1 = true → s.readable s.sreg.es di 1 = true →
      exec (.movsb g none) s = .next (advance (with8 s (.mem s.sreg.es di) (s.mem.peek src si)) 1 true true)
      ∧ exec (.cmpsb g none) s = .next (advance { s with
          flags := s.flags.withStatus (diffFlags (s.mem.peek src si) (s.mem.peek s.sreg.es di) false) } 1 true true))
    ∧ (s.readable src si 2 = true → s.readable s.sreg.es di 2 = true →
      exec (.movsw g none) s = .next (advance (with16 s (.mem s.sreg.es di) (memWord s src si)) 2 true true)
      ∧ exec (.cmpsw g none) s = .next (advance { s with
          flags := s.flags.withStatus (diffFlags (memWord s src si) (memWord s s.sreg.es di) false) } 2 true true))
    ∧ (s.readable s.sreg.es di 1 = true →
      exec (.scasb none) s = .next (advance { s with
        flags := s.flags.withStatus (diffFlags (lowByte s.gpr.ax) (s.mem.peek s.sreg.es di) false) } 1 false true)
      ∧ exec (.stosb none) s = .next (advance (with8 s (.mem s.sreg.es di) (lowByte s.gpr.ax)) 1 false true))
    ∧ (s.readable s.sreg.es di 2 = true →
      exec (.scasw none) s = .next (advance { s with
        flags := s.flags.withStatus (diffFlags s.gpr.ax (memWord s s.sreg.es di) false) } 2 false true)
      ∧ exec (.stosw none) s = .next (advance (with16 s (.mem s.sreg.es di) s.gpr.ax) 2 false true))
    ∧ (s.readable src si 1 = true →
      exec (.lodsb g none) s = .next (advance (s.setR8 .al (s.mem.peek src si)) 1 true false))
    ∧ (s.readable src si 2 = true →
      exec (.lodsw g none) s = .next (advance (s.setR16 .ax (memWord s src si)) 2 true false))

/-- The repeat prefixes: `CX` counts, `CMPS` and `SCAS` also stop on `ZF`, tested after the decrement, never before the
first iteration (45_string_flag_misc R317). -/
def Obligations.Repetition : Prop :=
  let never : Rep → Bool → Bool := fun _ _ => false
  let onZF : Rep → Bool → Bool := fun r z => match r with
    | .rep => !z
    | .repne => z
  (∀ g, Repeats (.movsb g) never ∧ Repeats (.movsw g) never ∧ Repeats (.lodsb g) never ∧ Repeats (.lodsw g) never
      ∧ Repeats (.cmpsb g) onZF ∧ Repeats (.cmpsw g) onZF)
    ∧ Repeats .stosb never ∧ Repeats .stosw never ∧ Repeats .scasb onZF ∧ Repeats .scasw onZF

/-- The flag-control instructions, `HLT`, `WAIT` (45_string_flag_misc R320 to R326, R331, R333). -/
def Obligations.FlagControlHaltWait : Prop :=
  ∀ s : State,
    exec .clc s = .next { s with flags := { s.flags with CF := false } }
    ∧ exec .stc s = .next { s with flags := { s.flags with CF := true } }
    ∧ exec .cmc s = .next { s with flags := { s.flags with CF := !s.flags.CF } }
    ∧ exec .cld s = .next { s with flags := { s.flags with DF := false } }
    ∧ exec .std s = .next { s with flags := { s.flags with DF := true } }
    ∧ exec .cli s = .next { s with flags := { s.flags with IF := false } }
    ∧ exec .sti s = .next { s with flags := { s.flags with IF := true } }
    ∧ exec .hlt s = .next { s with halted := true }
    ∧ exec .wait s = .next s

/-- The prefixes: what stands under them runs as it is, since a segment override is in its operand and a repeat prefix in
its string instruction; and, under hypotheses on the operands alone, each completes: an override before a `MOV` from
memory reads through that segment register, `LOCK` before `NOP` does nothing, a repeat prefix with `CX` = 0 does
nothing (30_encoding R123, R131, 45_string_flag_misc R317, R332; LOG 1). -/
def Obligations.Prefixes : Prop :=
  (∀ (i : Instr) (s : State),
    exec (.esPrefix i) s = exec i s ∧ exec (.csPrefix i) s = exec i s ∧ exec (.ssPrefix i) s = exec i s
    ∧ exec (.dsPrefix i) s = exec i s ∧ exec (.lockPrefix i) s = exec i s ∧ exec (.repnePrefix i) s = exec i s
    ∧ exec (.repPrefix i) s = exec i s)
  ∧ (∀ (s : State) (r : R16) (e : Ea),
    (∀ x ∈ ([(Instr.esPrefix, SReg.es), (.csPrefix, .cs), (.ssPrefix, .ss), (.dsPrefix, .ds)] :
        List ((Instr → Instr) × SReg)),
      s.readable (s.seg x.2) (s.eaOff e) 2 = true →
      exec (x.1 (.movR16Rm16 r (.mem ⟨x.2, e⟩))) s = .next (s.setR16 r (memWord s (s.seg x.2) (s.eaOff e)))))
  ∧ ∀ (s : State) (g : SReg),
    exec (.lockPrefix .nop) s = .next s
    ∧ (s.gpr.cx = 0 → exec (.repPrefix (.movsb g (some .rep))) s = .next s
      ∧ exec (.repnePrefix (.scasb (some .repne))) s = .next s)

/-! ## x87 -/

/-- The loads: a real widened, an integer converted, ten bytes or a slot as they are, a constant
(47_x87_instructions R400 to R410). -/
def Obligations.FpLoads : Prop :=
  ∀ s : State,
    (s.fpuReady [] true = true →
      (∀ m : Mem,
        let load (n : Nat) (form : Mem → Instr) (b : Operand) (x : ExcFlags) : Prop :=
          s.readable (s.sel m) (s.off m) n = true → exec (form m) s = .next (fpPushed s b.x x)
        let real (fmt : Fmt) (n : Nat) (form : Mem → Instr) : Prop :=
          load n form (fpReal fmt n s m)
            ((fpReal fmt n s m).exc.or (if (fpReal fmt n s m).denormal then denormalOp else .none))
        real .b32 4 .fldM32 ∧ real .b64 8 .fldM64
        ∧ load 2 .fildM16 (fpInt 2 s m) .none ∧ load 4 .fildM32 (fpInt 4 s m) .none
        ∧ load 8 .fildM64 (fpInt 8 s m) .none
        ∧ (s.readable (s.sel m) (s.off m) 10 = true →
          exec (.fldM80 m) s = .next (fpPushed s (BitVec.ofNat 80 (s.mem.peekN (s.sel m) (s.off m) 10)) .none)))
      ∧ ∀ x ∈ ([(.fld1, 0x3FFF8000000000000000), (.fldl2t, 0x4000D49A784BCD1B8AFE), (.fldl2e, 0x3FFFB8AA3B295C17F0BC),
          (.fldpi, 0x4000C90FDAA22168C235), (.fldlg2, 0x3FFD9A209A84FBCFF799), (.fldln2, 0x3FFEB17217F7D1CF79AC),
          (.fldz, 0)] : List (Instr × F80)),
        exec x.1 s = .next (fpPushed s x.2 .none))
    ∧ ∀ i : StIdx, s.fpuReady [i] true = true → exec (.fldSti i) s = .next (fpPushed s (s.fpu.st i) .none)

/-- The stores (47_x87_instructions R411 to R414): a real narrowed, an integer rounded as `CW.RC` says, ten bytes as
they are, a slot copied; then the pops. -/
def Obligations.FpStores : Prop :=
  FpStoreForm 4 (fun _ => narrow .b32) 0 .fstM32 ∧ FpStoreForm 8 (fun _ => narrow .b64) 0 .fstM64
  ∧ FpStoreForm 4 (fun _ => narrow .b32) 1 .fstpM32 ∧ FpStoreForm 8 (fun _ => narrow .b64) 1 .fstpM64
  ∧ FpStoreForm 10 (fun _ v => (v.toNat, .none)) 1 .fstpM80
  ∧ FpStoreForm 2 (fun s => fToInteger 16 (s.fpu.cw.extractLsb' 10 2)) 0 .fistM16
  ∧ FpStoreForm 4 (fun s => fToInteger 32 (s.fpu.cw.extractLsb' 10 2)) 0 .fistM32
  ∧ FpStoreForm 2 (fun s => fToInteger 16 (s.fpu.cw.extractLsb' 10 2)) 1 .fistpM16
  ∧ FpStoreForm 4 (fun s => fToInteger 32 (s.fpu.cw.extractLsb' 10 2)) 1 .fistpM32
  ∧ FpStoreForm 8 (fun s => fToInteger 64 (s.fpu.cw.extractLsb' 10 2)) 1 .fistpM64
  ∧ ∀ (s : State) (i : StIdx), s.fpuReady [0] false = true →
    exec (.fstSti i) s = .next (fpResult s i (s.fpu.st 0) .none 0)
    ∧ exec (.fstpSti i) s = .next (fpResult s i (s.fpu.st 0) .none 1)

/-- `FADD`, `FADDP`, `FIADD`, `FSUB`, `FSUBP`, `FISUB`, `FSUBR`, `FSUBRP`, `FISUBR`, every form
(47_x87_instructions R415 to R423). -/
def Obligations.FpAddSub : Prop :=
  FpForms fAdd .faddM32 .faddM64 .faddStSti .faddStiSt .faddpStiSt .fiaddM16 .fiaddM32
  ∧ FpForms fSub .fsubM32 .fsubM64 .fsubStSti .fsubStiSt .fsubpStiSt .fisubM16 .fisubM32
  ∧ FpForms (fun fmt => swapped (fSub fmt)) .fsubrM32 .fsubrM64 .fsubrStSti .fsubrStiSt .fsubrpStiSt .fisubrM16
    .fisubrM32

/-- `FMUL`, `FMULP`, `FIMUL`, `FDIV`, `FDIVP`, `FIDIV`, `FDIVR`, `FDIVRP`, `FIDIVR`, every form
(47_x87_instructions R424 to R432). -/
def Obligations.FpMulDiv : Prop :=
  FpForms fMul .fmulM32 .fmulM64 .fmulStSti .fmulStiSt .fmulpStiSt .fimulM16 .fimulM32
  ∧ FpForms fDiv .fdivM32 .fdivM64 .fdivStSti .fdivStiSt .fdivpStiSt .fidivM16 .fidivM32
  ∧ FpForms (fun fmt => swapped (fDiv fmt)) .fdivrM32 .fdivrM64 .fdivrStSti .fdivrStiSt .fdivrpStiSt .fidivrM16
    .fidivrM32

/-- The compares and `FTST`: the outcome in `C3 C2 C0`, `C1` 0, the pops (47_x87_instructions R433 to R438). -/
def Obligations.FpCompares : Prop :=
  FpCompareForm 4 (fpReal .b32 4) 0 .fcomM32 ∧ FpCompareForm 8 (fpReal .b64 8) 0 .fcomM64
  ∧ FpCompareForm 4 (fpReal .b32 4) 1 .fcompM32 ∧ FpCompareForm 8 (fpReal .b64 8) 1 .fcompM64
  ∧ FpCompareForm 2 (fpInt 2) 0 .ficomM16 ∧ FpCompareForm 4 (fpInt 4) 0 .ficomM32
  ∧ FpCompareForm 2 (fpInt 2) 1 .ficompM16 ∧ FpCompareForm 4 (fpInt 4) 1 .ficompM32
  ∧ (∀ (s : State) (i : StIdx), s.fpuReady [0, i] false = true →
    exec (.fcomSti i) s = .next (fpCompared s (fpSlot s i) 0) ∧ exec (.fcompSti i) s = .next (fpCompared s (fpSlot s i) 1))
  ∧ (∀ s : State, s.fpuReady [0, 1] false = true → exec .fcompp s = .next (fpCompared s (fpSlot s 1) 2))
  ∧ ∀ s : State, s.fpuReady [0] false = true → exec .ftst s = .next (fpCompared s (.ofSlot 0) 0)

/-- `FXAM`, by the bits of the datum: the seven rows of the table, under either ring policy; `C1` is the sign bit, also
of an empty slot (47_x87_instructions R440). -/
def Obligations.FpExamine : Prop :=
  ∀ s : State,
    let v := s.fpu.st 0
    let e := (v.extractLsb' 64 15).toNat
    let sig := (v.extractLsb' 0 64).toNat
    let j := v.getLsbD 63
    let answers (c3 c2 c0 : Bool) : Prop := exec .fxam s = .next { s with fpu := { s.fpu with
      cond := { C0 := c0, C1 := v.getLsbD 79, C2 := c2, C3 := c3 } } }
    (s.fpu.occupied 0 = false → answers true false true)
    ∧ (s.fpu.occupied 0 = true →
      (1 ≤ e → j = false → answers false false false)
      ∧ (e = 0x7FFF → 2 ^ 63 < sig → answers false false true)
      ∧ (1 ≤ e → e < 0x7FFF → j = true → answers false true false)
      ∧ (e = 0x7FFF → sig = 2 ^ 63 → answers false true true)
      ∧ (e = 0 → sig = 0 → answers true false false)
      ∧ (e = 0 → sig ≠ 0 → answers true true false))

/-- `FCHS`, `FABS`, `FSQRT`, `FRNDINT`, `FXCH` (47_x87_instructions R441 to R445). -/
def Obligations.FpSignRootRoundExchange : Prop :=
  FpUnaryForm (fun _ v => (BitVec.ofBool (!v.getLsbD 79) ++ v.extractLsb' 0 79, .none)) .fchs
  ∧ FpUnaryForm (fun _ v => (0#1 ++ v.extractLsb' 0 79, .none)) .fabs
  ∧ FpUnaryForm (fun _ v => fSqrt (.ofSlot v)) .fsqrt
  ∧ FpUnaryForm (fun s v => fRoundToInt (s.fpu.cw.extractLsb' 10 2) (.ofSlot v)) .frndint
  ∧ ∀ (s : State) (i : StIdx), s.fpuReady [0, i] false = true →
    exec (.fxchSti i) s = .next { s with fpu := (s.fpu.setSt 0 (s.fpu.st i)).setSt i (s.fpu.st 0) }

/-- The control instructions; none of them looks at a tag (47_x87_instructions R446 to R455). -/
def Obligations.FpControl : Prop :=
  ∀ s : State,
    exec .fnop s = .next s
    ∧ exec .fincstp s = .next { s with fpu := { s.fpu with top := s.fpu.top + 1 } }
    ∧ exec .fdecstp s = .next { s with fpu := { s.fpu with top := s.fpu.top - 1 } }
    ∧ (∀ i : StIdx, exec (.ffreeSti i) s = .next { s with fpu := { s.fpu with
        fr := s.fpu.fr.set (s.fpu.top + i) { val := s.fpu.st i, occupied := false } } })
    ∧ (∃ t, exec .fninit s = .next t ∧ t = { s with fpu := t.fpu } ∧ t.fpu.cw = 0x037F ∧ t.fpu.top = 0
      ∧ t.fpu.exc = { IE := false, DE := false, ZE := false, OE := false, UE := false, PE := false }
      ∧ t.fpu.cond = { C0 := false, C1 := false, C2 := false, C3 := false }
      ∧ ∀ k, t.fpu.fr.get k = { val := (s.fpu.fr.get k).val, occupied := false })
    ∧ exec .fnclex s = .next { s with fpu := { s.fpu with
        exc := { IE := false, DE := false, ZE := false, OE := false, UE := false, PE := false } } }
    ∧ exec .fnstswAx s = .next { s with gpr := { s.gpr with ax := BitVec.ofNat 16 (statusOf s.fpu) } }
    ∧ ∀ m : Mem, s.readable (s.sel m) (s.off m) 2 = true →
      exec (.fldcwM16 m) s = .next { s with fpu := { s.fpu with cw := memWord s (s.sel m) (s.off m) } }
      ∧ exec (.fnstcwM16 m) s = .next (with16 s (.mem (s.sel m) (s.off m)) s.fpu.cw)
      ∧ exec (.fnstswM16 m) s = .next (with16 s (.mem (s.sel m) (s.off m)) (BitVec.ofNat 16 (statusOf s.fpu)))

/-- `FpuStackFault` (47_x87_instructions R392, R394): raised exactly under `FPU_RING_POLICY = fault`, when a numeric source is
an empty slot or a push would take an occupied one; under `wrap`, never. -/
def Obligations.FpuStackFaults : Prop :=
  ∀ (i : Instr) (s : State),
    exec i s = .fault .fpuStack ↔ s.params.ringPolicy = .fault
      ∧ ((∃ k ∈ slotsRead i.body, s.fpu.occupied k = false)
        ∨ (pushesFp i.body = true ∧ (s.fpu.fr.get (s.fpu.top - 1)).occupied = true))

/-! ## Numbers -/

/-- Rounding to an integer, by the four values of `RC`: nearest with ties to even, floor, ceiling, toward zero
(46_x87_numerics R348, R352). -/
def Obligations.RoundToInteger : Prop :=
  ∀ q : Ratio, 0 < q.den →
    Nearest (rat q) (q.roundTo 0) ∧ q.roundTo 1 = ⌊rat q⌋ ∧ q.roundTo 2 = ⌈rat q⌉
    ∧ q.roundTo 3 = (if rat q < 0 then ⌈rat q⌉ else ⌊rat q⌋)

/-- `Round(fmt, x)` for a magnitude `x`, over the rationals: `p` significant bits, tininess judged after rounding, the
infinity above the format, and the flags of each case (46_x87_numerics R348). -/
def Obligations.RoundToFormat : Prop :=
  ∀ (fmt : Fmt) (a : Ratio) (e m : Int), 0 < a.num → 0 < a.den →
    let x := rat a
    let ulp : ℚ := 2 ^ (e - fmt.p + 1)
    let tiny : ℚ := 2 ^ (fmt.emin - fmt.p + 1)
    (2 : ℚ) ^ e ≤ x → x < 2 ^ (e + 1) → Nearest (x / ulp) m →
    let r0 : ℚ := m * ulp
    (r0 < 2 ^ fmt.emin → ∀ k : Int, Nearest (x / tiny) k → ∃ r : Ratio, 0 < r.den ∧ rat r = k * tiny
        ∧ roundMag fmt a = (.finite r, if k * tiny = x then .none else { ExcFlags.none with UE := true, PE := true }))
    ∧ (2 ^ fmt.emin ≤ r0 → 2 ^ (fmt.emax + 1) ≤ r0 →
        roundMag fmt a = (.infinite, { ExcFlags.none with OE := true, PE := true }))
    ∧ (2 ^ fmt.emin ≤ r0 → r0 < 2 ^ (fmt.emax + 1) → ∃ r : Ratio, 0 < r.den ∧ rat r = r0
        ∧ roundMag fmt a = (.finite r, if r0 = x then .none else { ExcFlags.none with PE := true }))

/-- The conversions between formats, on every datum. A zero, a normal number, a proper denormal is the encoding of its sign
and value (a pseudo-denormal is no result's form and is left out), and every b32 and b64 datum that is no NaN survives
widening and narrowing, with no flag. Widening a b32 or b64 datum: the number itself, the infinity, a NaN quieted with its
payload left-aligned, `IE` for a signaling one; that a b32 or b64 denormal counts as a denormal operand is LOG 13.
An integer of 64 bits or fewer is exact. Narrowing: the rounded number with `Round`'s flags, the infinity on overflow, a
NaN's sign and upper payload, the indefinite for an unsupported datum
(46_x87_numerics R343 to R348, R353, R355, R356, R362, R378). -/
def Obligations.ExactValuesSurvive : Prop :=
  (∀ v : F80, (classOf v = .zero ∨ classOf v = .normal ∨ (classOf v = .denormal ∧ v.getLsbD 63 = false)) →
    encX80 (signOf v) (valOf v).abs = v)
  ∧ (∀ w : BitVec 32, ¬((w.extractLsb' 23 8).toNat = 255 ∧ (w.extractLsb' 0 23).toNat ≠ 0) →
    narrow .b32 (widen .b32 w.toNat).x = (w.toNat, .none))
  ∧ (∀ w : BitVec 64, ¬((w.extractLsb' 52 11).toNat = 2047 ∧ (w.extractLsb' 0 52).toNat ≠ 0) →
    narrow .b64 (widen .b64 w.toNat).x = (w.toNat, .none))
  ∧ (∀ w : BitVec 32, WidenOf .b32 w (widen .b32 w.toNat))
  ∧ (∀ w : BitVec 64, WidenOf .b64 w (widen .b64 w.toNat))
  ∧ (∀ i : Int, -2 ^ 63 ≤ i → i < 2 ^ 63 →
    Encodes (decide (i < 0)) (some |(i : ℚ)|) (Operand.ofInt i).x
    ∧ (Operand.ofInt i).denormal = false ∧ (Operand.ofInt i).exc = .none)
  ∧ (∀ v : F80, NarrowOf .b32 32 v (narrow .b32 v))
  ∧ ∀ v : F80, NarrowOf .b64 64 v (narrow .b64 v)

/-- What each floating-point operation gives, on every datum, against the rationals: `Add`, `Sub`, `Mul`, `Div` in every
result format, `Compare`, `Sqrt`, `RoundToInt`, `ToInteger` at every `rc` and width, with every flag they set
(46_x87_numerics R370 to R377); which operands count as denormal (R362); and the laws of the spec's prose: sum and product
do not depend on the order of the operands, `+0` added to a normal number gives that number with no flag (R349, R354). -/
def Obligations.AddMulLaws : Prop :=
  (∀ fmt : Fmt,
    NumericOp (fAdd fmt) (SumOf fmt false) ∧ NumericOp (fSub fmt) (SumOf fmt true)
    ∧ NumericOp (fMul fmt) (ProductOf fmt) ∧ NumericOp (fDiv fmt) (QuotientOf fmt))
  ∧ (∀ a b : Operand, CompareOf a b (fCompare a b))
  ∧ (∀ v : F80, RootOf v (fSqrt (.ofSlot v)))
  ∧ (∀ (rc : BitVec 2) (v : F80), IntegralOf rc v (fRoundToInt rc (.ofSlot v)))
  ∧ (∀ k ∈ [16, 32, 64], ∀ (rc : BitVec 2) (v : F80), IntegerOf k rc v (fToInteger k rc v))
  ∧ (∀ v : F80, Operand.ofSlot v = { x := v, denormal := isDenormal v, exc := .none })
  ∧ (∀ (fmt : Fmt) (a b : Operand), fAdd fmt a b = fAdd fmt b a ∧ fMul fmt a b = fMul fmt b a)
  ∧ ∀ v : F80, classOf v = .normal → fAdd .x80 (.ofSlot 0) (.ofSlot v) = (v, .none)

/-- The square root is the exact root rounded to 64 significant bits, in the binade of the root, to nearest and ties to even,
and `PE` says whether it differs from the root (46_x87_numerics R348, R374). -/
def Obligations.SquareRootNearest : Prop :=
  ∀ v : Ratio, 0 < v.num → 0 < v.den →
    ∃ n k : Int, RootRounds (rat v) n k ∧ rat (sqrtMag v).1 = n * (2 : ℚ) ^ k
      ∧ ((sqrtMag v).2 = true ↔ rat (sqrtMag v).1 ^ 2 ≠ rat v)

/-! ## Registers, memory, stacks -/

/-- Views of registers. The byte registers are halves of the first four word registers: reads, and writes that keep the
other half and every other register (10_state R32). The image `FLAGS`: the value of its bits, the reserved bits, and
what writing and reading it back gives (R41). -/
def Obligations.RegisterViews : Prop :=
  (∀ (s : State) (v : Byte),
    (s.r8 .al = s.gpr.ax.extractLsb' 0 8 ∧ s.r8 .cl = s.gpr.cx.extractLsb' 0 8 ∧ s.r8 .dl = s.gpr.dx.extractLsb' 0 8
      ∧ s.r8 .bl = s.gpr.bx.extractLsb' 0 8 ∧ s.r8 .ah = s.gpr.ax.extractLsb' 8 8 ∧ s.r8 .ch = s.gpr.cx.extractLsb' 8 8
      ∧ s.r8 .dh = s.gpr.dx.extractLsb' 8 8 ∧ s.r8 .bh = s.gpr.bx.extractLsb' 8 8)
    ∧ (∀ r q : R8, (s.setR8 r v).r8 q = if q = r then v else s.r8 q)
    ∧ ∀ (r : R8) (q : R16), q ≠ parentOf r → (s.setR8 r v).r16 q = s.r16 q)
  ∧ (∀ f : Flags, f.image.toNat = imageOf f ∧ f.image &&& 0xF02A = 0x0002 ∧ Flags.ofImage f.image = f)
  ∧ ∀ w : Word, (Flags.ofImage w).image = (w &&& 0x0FD5) ||| 0x0002

/-- A read of `n` bytes answers exactly when each is in bounds, and else names the first that is not; a write likewise,
and it changes those bytes to the value's, low byte first, offsets wrapping, and no other byte; what was written is
read back (20_memory R82, R83, R85 to R90). That a write keeps the store's canonical form is the model's choice of
representation, no rule of the spec (LOG 7). -/
def Obligations.MemoryReadWrite : Prop :=
  ∀ (s : State) (sel off : Word) (n v : Nat), n ≤ 10 →
    (s.readable sel off n = true →
      (∃ x, s.memRead sel off n = .ok x
        ∧ ∀ k < n, x / 256 ^ k % 256 = (s.mem.peek sel (off + BitVec.ofNat 16 k)).toNat)
      ∧ ∃ t, s.memWrite sel off n v = .ok t ∧ t = { s with mem := t.mem } ∧ t.mem.segs = s.mem.segs
        ∧ (s.mem.wf = true → t.mem.wf = true ∧ t.memRead sel off n = .ok (v % 256 ^ n)
          ∧ (∀ k < n, (t.mem.peek sel (off + BitVec.ofNat 16 k)).toNat = v / 256 ^ k % 256)
          ∧ ∀ a b, ¬(a = sel ∧ (b - off).toNat < n) → t.mem.peek a b = s.mem.peek a b))
    ∧ (∀ k < n, s.readable sel off k = true → s.mem.inBounds sel (off + BitVec.ofNat 16 k) = false →
      s.memRead sel off n = .error (.addressing sel (off + BitVec.ofNat 16 k))
      ∧ s.memWrite sel off n v = .error (.addressing sel (off + BitVec.ofNat 16 k)))

/-- The stack primitives: a push and the pop after it give the value and `SP` back, at either width; a push below the
segment, and a pop above it, name the address the rules name (20_memory R100 to R104). -/
def Obligations.PushPop : Prop :=
  ∀ s : State, s.mem.wf = true →
    (∀ (v : Word) (t : State), s.push16 v = .ok t →
      t.gpr.sp = s.gpr.sp - 2 ∧ t.pop16 = .ok (v, { t with gpr := s.gpr }))
    ∧ (∀ (v : Byte) (t : State), s.push8 v = .ok t →
      t.gpr.sp = s.gpr.sp - 1 ∧ t.pop8 = .ok (v, { t with gpr := s.gpr }))
    ∧ (∀ v, s.gpr.sp.toNat < 2 → s.push16 v = .error (.addressing s.sreg.ss (s.gpr.sp - 2)))
    ∧ (∀ v, s.gpr.sp.toNat < 1 → s.push8 v = .error (.addressing s.sreg.ss (s.gpr.sp - 1)))
    ∧ ((∀ z, s.mem.segSize s.sreg.ss = some z → z < s.gpr.sp.toNat + 2) →
      s.pop16 = .error (.addressing s.sreg.ss s.gpr.sp))
    ∧ ((∀ z, s.mem.segSize s.sreg.ss = some z → z < s.gpr.sp.toNat + 1) →
      s.pop8 = .error (.addressing s.sreg.ss s.gpr.sp))

/-- The x87 stack: `ST(i)` is `FR[(TOP + i) mod 8]`; a push decrements `TOP` and moves `ST(i)` to `ST(i+1)`; a pop
increments it, empties the slot and keeps its value (10_state R51, R52, 47_x87_instructions R391). -/
def Obligations.FpStackDiscipline : Prop :=
  ∀ (u : Fpu) (v : F80) (i : StIdx),
    u.st i = (u.fr.get (BitVec.ofNat 3 ((u.top.toNat + i.toNat) % 8))).val
    ∧ (u.push v).top.toNat = (u.top.toNat + 7) % 8 ∧ (u.push v).st 0 = v ∧ (u.push v).occupied 0 = true
    ∧ (i ≠ 7 → (u.push v).st (i + 1) = u.st i ∧ (u.push v).occupied (i + 1) = u.occupied i)
    ∧ u.pop.top.toNat = (u.top.toNat + 1) % 8 ∧ (u.fr.get u.top).val = (u.pop.fr.get u.top).val
    ∧ (u.pop.fr.get u.top).occupied = false
    ∧ (i ≠ 0 → u.pop.st (i - 1) = u.st i ∧ u.pop.occupied (i - 1) = u.occupied i)
    ∧ (u.setSt i v).st i = v ∧ (u.setSt i v).occupied i = true ∧ (u.setSt i v).top = u.top

/-! ## Frames: what no instruction does, in the words of the tables in Safety.lean -/

/-- No instruction changes a flag it is not listed as writing (10_state R46, R48); what a host handler does is its own
(60_exceptions R466). -/
def Obligations.FlagsUnchanged : Prop :=
  ∀ (i : Instr) (s t : State), handsOff i = false → exec i s = .next t →
    ∀ f, f ∉ mayWriteFlags i → t.flags.get f = s.flags.get f

/-- No instruction changes a general register but its destination and those its rule updates (`SP` of a push or a pop,
`SI DI CX` of a string instruction). -/
def Obligations.RegistersUnchanged : Prop :=
  ∀ (i : Instr) (s t : State), handsOff i = false → exec i s = .next t →
    ∀ r, r ∉ mayWriteRegs i → t.r16 r = s.r16 r

/-- `CS` is written by far transfers and `IRET` only, the other segment registers by the loads and pops that name them;
`IP` is moved from `next_ip` by control transfers only; only `HLT` sets `halted`, a host handler included; no segment is
removed or resized (10_state R33 to R35, R56, R57, 60_exceptions R466). That the parameters are the same in the next
state says that they are fixed for an instance (00_scope R12); that they stand in the state is the model's choice
(LOG 3). -/
def Obligations.SegmentsAndControlUnchanged : Prop :=
  ∀ (i : Instr) (s t : State), exec i s = .next t →
    (handsOff i = false → (∀ g, g ∉ mayWriteSegs i → t.seg g = s.seg g) ∧ (transfers i = false → t.ip = s.ip)
      ∧ t.mem.segs = s.mem.segs)
    ∧ (i.body ≠ .hlt → t.halted = s.halted) ∧ t.params = s.params
    ∧ (s.mem.wf = true → ∀ sel z, s.mem.segSize sel = some z → t.mem.segSize sel = some z)

/-- No byte of memory changes but those an instruction stores to: `storeBytes` computes them on the state it starts in,
as the meaning does, and for a repeated string instruction they are one iteration's, `DI` moved `k` times, for the
`k` below `CX` (20_memory R93). -/
def Obligations.MemoryUnchanged : Prop :=
  ∀ (i : Instr) (s t : State), s.mem.wf = true → handsOff i = false → exec i s = .next t →
    ∀ a b,
      (repeats i = false → touches (storeBytes i s) a b = false → t.mem.peek a b = s.mem.peek a b)
      ∧ (repeats i = true →
        (∀ k < s.gpr.cx.toNat,
          touches (storeBytes i ((List.range k).foldl (fun u _ => advance u (stringWidth i) false true) s)) a b = false) →
        t.mem.peek a b = s.mem.peek a b)

/-- No instruction but an x87 one changes the x87 state; no x87 instruction changes a flag, a segment register, `IP` or a
general register but `FNSTSW AX`, which writes `AX`; the condition bits are written by the compares, `FTST`, `FXAM` and
`FNINIT` only; a sticky flag is cleared by `FNCLEX` and `FNINIT` only; `CW` is written by `FLDCW` and `FNINIT` only
(47_x87_instructions R395, R396, 46_x87_numerics R360). -/
def Obligations.X87Isolated : Prop :=
  ∀ (i : Instr) (s t : State), handsOff i = false → exec i s = .next t →
    (isX87 i = false → t.fpu = s.fpu)
    ∧ (isX87 i = true → t.flags = s.flags ∧ t.sreg = s.sreg ∧ t.ip = s.ip
      ∧ (i.body ≠ .fnstswAx → t.gpr = s.gpr) ∧ t.gpr = { s.gpr with ax := t.gpr.ax })
    ∧ (writesCond i = false → t.fpu.cond = s.fpu.cond)
    ∧ (i.body ≠ .fnclex → i.body ≠ .fninit → t.fpu.exc = s.fpu.exc.or t.fpu.exc)
    ∧ ((∀ m, i.body ≠ .fldcwM16 m) → i.body ≠ .fninit → t.fpu.cw = s.fpu.cw)

/-! ## Faults -/

/-- An operand out of bounds: the instruction faults at the first byte of it that is, in ascending order, even where it would
store nothing (a shift by a masked count of 0); an x87 instruction once it has passed the check of its slots, which
comes first. And so for every access that an instruction makes, those of the stack, of strings and of the destination of
`POP r/m16` among them: the first in order that fails is the fault (20_memory R85, R88 to R90, R100, R101,
42_logic R226, 44_stack R290 to R297, 45_string_flag_misc R310, 60_exceptions R464, R482). -/
def Obligations.OperandFaults : Prop :=
  ∀ (i : Instr) (s : State), s.fpuReady (slotsRead i.body) (pushesFp i.body) = true →
    (∀ (sel off : Word) (n k : Nat), operandAt i.body s = some (sel, off, n) → k < n → s.readable sel off k = true →
      s.mem.inBounds sel (off + BitVec.ofNat 16 k) = false →
      exec i s = .fault (.addressing sel (off + BitVec.ofNat 16 k)))
    ∧ ∀ (sel off : Word), (accesses i.body s).findSome? (Access.failsAt s) = some (sel, off) →
      exec i s = .fault (.addressing sel off)

/-- What an instruction can fault with, and that it never refuses: an addressing fault, whose address is a byte out of
bounds, or `SS` with an offset that a push or a pop names; or `FpuStackFault`, from an x87 instruction under
`FPU_RING_POLICY = fault`; never an invalid opcode (60_exceptions R460, R467). -/
def Obligations.FaultsNamed : Prop :=
  ∀ (i : Instr) (s : State),
    (∀ r, exec i s ≠ .refused r)
    ∧ ∀ f, exec i s = .fault f → match f with
      | .addressing sel off => s.mem.inBounds sel off = false
          ∨ (sel = s.sreg.ss ∧ (s.mem.inBounds sel (off + 1) = false ∨ 0xFFFE ≤ off.toNat))
      | .invalidOpcode _ _ => False
      | .fpuStack => isX87 i = true ∧ s.params.ringPolicy = .fault

/-! ## The machine -/

/-- Every step keeps the store in its canonical form, the host's moves included (10_state R57; LOG 7). -/
def Obligations.StoreInvariant : Prop :=
  ∀ s t : State, s.mem.wf = true → step s = .next t → t.mem.wf = true

/-- The reset state has the values of 10_state R60, the store empty, and the first step from it is the fault of
70_reset_and_hazards R502. `Reset()` on a running instance, under whatever parameters, gives every register those values,
`SS` and `SP` from `RESET_SS` and `RESET_SP`, which are R60's where those have the values that 00_scope R12 takes; it
keeps the store, and a second call changes nothing (R500, R501, R503). The model's choices in it: the canonical form of
the store (LOG 7), and the parameters in the state, which `Reset()` keeps (LOG 3). -/
def Obligations.ResetState : Prop :=
  (let s := State.reset
  (∀ r, s.r16 r = if r = .sp then 0xFFFE else 0) ∧ (∀ g, s.seg g = 0) ∧ s.ip = 0 ∧ s.flags.image = 0x0002
  ∧ s.halted = false ∧ s.fpu.top = 0 ∧ (∀ k, s.fpu.fr.get k = { val := 0, occupied := false }) ∧ s.fpu.cw = 0x037F
  ∧ s.fpu.statusWord = 0 ∧ (∀ sel, s.mem.segSize sel = none) ∧ s.mem.wf = true
  ∧ step s = .fault (.addressing 0 0))
  ∧ (∀ s : State, s.hostReset.hostReset = s.hostReset ∧ s.hostReset.mem = s.mem)
  ∧ (∀ s t : State, s.mem = t.mem → s.params = t.params → s.hostReset = t.hostReset)
  ∧ (∀ s : State, s.hostReset = { State.reset with
      gpr := { State.reset.gpr with sp := s.params.resetSp }
      sreg := { State.reset.sreg with ss := s.params.resetSs }
      mem := s.mem
      params := s.params })
  ∧ ∀ s : State, s.params.resetSp = 0xFFFE → s.params.resetSs = 0 →
    s.hostReset = { State.reset with mem := s.mem, params := s.params }

/-- A step runs the decoded instruction: where the bytes from `CS:IP` on decode to `i`, the step is `exec i` on the state
with `IP` moved past the instruction's bytes, and that is all a step adds (30_encoding R121, R126; the meaning takes the
state with `IP` at `next_ip`, LOG 2). A `Tick` of a halted core reports `Halted` and changes nothing (00_scope R7,
10_state R56); that the host interface's step answers this as a next state is the model's choice (LOG 6). -/
def Obligations.StepRunsDecoded : Prop :=
  (∀ (s : State) (i : Instr) (len : Nat), s.halted = false → decode s.fetched = .ok (i, len) →
    step s = exec i { s with ip := s.ip + BitVec.ofNat 16 len })
  ∧ ∀ s : State, s.halted = true → step s = .next s ∧ tick s = .next (.halted, s)

/-- Where the bytes of a well-formed instruction stand at `CS:IP`, in bounds, the step runs that instruction: the offset
wraps, no later byte is needed, in bounds or not (30_encoding R121, R122, 60_exceptions R464; LOG 2). -/
def Obligations.StepRunsEncoded : Prop :=
  ∀ (s : State) (i : Instr), s.halted = false → i.wf = true →
    (∀ k < (encode i).length, s.mem.inBounds s.sreg.cs (s.ip + BitVec.ofNat 16 k) = true
      ∧ (encode i)[k]? = some (s.mem.peek s.sreg.cs (s.ip + BitVec.ofNat 16 k))) →
    step s = exec i { s with ip := s.ip + BitVec.ofNat 16 i.length }

/-- Fetch, byte by byte. Where the bytes below the `k`-th of a well-formed instruction's stand in bounds and the `k`-th is
out of bounds, the step is the addressing fault at that byte. Bytes that match no admitted instruction are an invalid
opcode at the first byte, found at the deciding byte, whatever stands behind it, in bounds or not, and whatever prefixes
stand before: the invalid first opcodes; the inadmissible second bytes; a repeat prefix, anywhere, before a byte that is
neither a prefix nor a string opcode; fifteen prefixes; and an instruction that would be complete only past the fifteenth
byte, whose first fifteen are still needed (30_encoding R122, R125, R127, R140, 60_exceptions R464, R482). -/
def Obligations.FetchFaults : Prop :=
  ∀ s : State, s.halted = false →
    let out (k : Nat) : Prop := s.mem.inBounds s.sreg.cs (s.ip + BitVec.ofNat 16 k) = false
    let missing (k : Nat) : Prop := step s = .fault (.addressing s.sreg.cs (s.ip + BitVec.ofNat 16 k))
    let invalid : Prop := step s = .fault (.invalidOpcode s.sreg.cs s.ip)
    (∀ (i : Instr) (k : Nat), i.wf = true → k < (encode i).length → standsAt s ((encode i).take k) → out k → missing k)
    ∧ (∀ pre : List Byte, pre ⊆ prefixBytes →
      (∀ b ∈ invalidOpcodes, standsAt s (pre ++ [b]) → invalid)
      ∧ (∀ b c, invalidSecond b c = true → standsAt s (pre ++ [b, c]) → invalid)
      ∧ (∀ b, 0xF2 ∈ pre ∨ 0xF3 ∈ pre → b ∉ prefixBytes → b ∉ stringOpcodes → standsAt s (pre ++ [b]) → invalid)
      ∧ (pre.length = 15 → standsAt s pre → invalid)
      ∧ ∀ i : Instr, 0xF2 ∉ pre → 0xF3 ∉ pre → i.wf = true → 15 < pre.length + (encode i).length →
        (standsAt s ((pre ++ encode i).take 15) → invalid)
        ∧ ∀ k < 15, standsAt s ((pre ++ encode i).take k) → out k → missing k)

/-! ## Encoding -/

/-- Every well-formed instruction, prefixes and all, is decoded from its own bytes, whatever bytes follow, at its length. -/
def Obligations.DecodeEncode : Prop :=
  ∀ (i : Instr) (rest : List Byte), i.wf = true → decode (encode i ++ rest) = .ok (i, i.length)

/-- What the decoder reads is well-formed, and its encoding is the very bytes that were read: no two byte sequences denote
one term, and no bit is dropped (30_encoding R122, R126, R127). -/
def Obligations.EncodeDecode : Prop :=
  ∀ (bs : List Byte) (i : Instr) (len : Nat), decode bs = .ok (i, len) →
    i.wf = true ∧ len = i.length ∧ len ≤ 15 ∧ encode i = bs.take len

/-- Words written out from the spec's encodings and examples, at least one of each family (data movement, arithmetic, logic,
shift and rotate, control transfer, stack, string, flag control, x87 load, x87 arithmetic, x87 compare, x87 control,
prefix), decode to the instructions they stand for. -/
def Obligations.DecodeWords : Prop :=
  ∀ x ∈ ([([0x01, 0xD8], .addRm16R16 (.reg .ax) .bx),
      ([0x83, 0xC4, 0x04], .addRm16Imm8 (.reg .sp) 4),
      ([0x6B, 0xC3, 0x0A], .imulR16Rm16Imm8 .ax (.reg .bx) 10),
      ([0x88, 0x48, 0x04], .movRm8R8 (.mem ⟨.ds, .disp8 .bxsi 4⟩) .cl),
      ([0xC7, 0x46, 0xFE, 0x05, 0x00], .movRm16Imm16 (.mem ⟨.ss, .disp8 .bp 0xFE⟩) 5),
      ([0x8E, 0xD8], .movDsRm16 (.reg .ax)),
      ([0xC5, 0x37], .ldsR16M1616 .si ⟨.ds, .plain .bx⟩),
      ([0xEA, 0x00, 0x01, 0x05, 0x00], .jmpPtr1616 0x0100 0x0005),
      ([0xFF, 0x2F], .jmpM1616 ⟨.ds, .plain .bx⟩),
      ([0x8F, 0x06, 0x00, 0x02], .popRm16 (.mem ⟨.ds, .direct 0x0200⟩)),
      ([0xC8, 0x04, 0x00, 0x00], .enterImm16Imm8 4 0),
      ([0xF2, 0xAE], .repnePrefix (.scasb (some .repne))),
      ([0x26, 0xD7], .esPrefix (.xlat .es)),
      ([0xD9, 0x06, 0x00, 0x02], .fldM32 ⟨.ds, .direct 0x0200⟩),
      ([0xDE, 0xC1], .faddpStiSt 1),
      ([0xA8, 0x01], .testAlImm8 1),
      ([0x31, 0xC0], .xorRm16R16 (.reg .ax) .ax),
      ([0xD1, 0xE0], .shlRm16One (.reg .ax)),
      ([0xD2, 0xC2], .rolRm8Cl (.reg .dl)),
      ([0xF5], .cmc),
      ([0xFD], .std),
      ([0xD8, 0xD1], .fcomSti 1),
      ([0xDE, 0xD9], .fcompp),
      ([0xDF, 0xE0], .fnstswAx)] : List (List Byte × Instr)),
    decode x.1 = .ok (x.2, x.1.length)
end

