-- ==== Sys2Proof/Laws/Memory.lean ====
section
/-! SUPPORT. The laws of the Memory Segment Store: reads after writes, the canonical form kept by every operation, the
bounds check of a run of bytes. -/

namespace Sys2Proof.Machine

/-! ## Rising keys -/

theorem rising_iff (l : List Nat) : rising l = true ↔ l.Pairwise (· < ·) := by
  induction l with
  | nil => simp [rising]
  | cons a l ih =>
    cases l with
    | nil => simp [rising]
    | cons b l =>
      simp only [rising, Bool.and_eq_true, decide_eq_true_eq, ih]
      constructor
      · rintro ⟨hab, hp⟩
        refine List.pairwise_cons.2 ⟨?_, hp⟩
        intro x hx
        rcases List.mem_cons.1 hx with rfl | hx
        · exact hab
        · exact lt_trans hab ((List.pairwise_cons.1 hp).1 x hx)
      · intro hp
        have h := List.pairwise_cons.1 hp
        exact ⟨h.1 b (by simp), h.2⟩

/-! ## Cells -/

theorem mem_storeCell {l : List Host.Cell} {k : Nat} {v : Byte} {c : Host.Cell} (h : c ∈ storeCell l k v) :
    c ∈ l ∨ (c = (k, v) ∧ v ≠ 0) := by
  induction l with
  | nil =>
    simp only [storeCell] at h
    split at h
    · cases h
    · rename_i hv
      exact .inr ⟨by simpa using h, hv⟩
  | cons x l ih =>
    obtain ⟨j, w⟩ := x
    simp only [storeCell] at h
    split at h
    · split at h
      · exact .inl h
      · rename_i hv
        rcases List.mem_cons.1 h with rfl | h
        · exact .inr ⟨rfl, hv⟩
        · exact .inl h
    · split at h
      · split at h
        · exact .inl (List.mem_cons_of_mem _ h)
        · rename_i hv
          rcases List.mem_cons.1 h with rfl | h
          · exact .inr ⟨rfl, hv⟩
          · exact .inl (List.mem_cons_of_mem _ h)
      · rcases List.mem_cons.1 h with rfl | h
        · exact .inl (by simp)
        · rcases ih h with h | h
          · exact .inl (List.mem_cons_of_mem _ h)
          · exact .inr h

/-- The cells' keys strictly rise. -/
abbrev SortedCells (l : List Host.Cell) : Prop := (l.map Prod.fst).Pairwise (· < ·)

theorem sortedCells_cons {x : Host.Cell} {l : List Host.Cell} :
    SortedCells (x :: l) ↔ (∀ c ∈ l, x.1 < c.1) ∧ SortedCells l := by
  simp [SortedCells]

theorem lookupCell_of_lt {l : List Host.Cell} {k : Nat} (h : ∀ c ∈ l, k < c.1) : lookupCell l k = 0 := by
  induction l with
  | nil => rfl
  | cons x l ih =>
    obtain ⟨j, w⟩ := x
    have hj : j ≠ k := Nat.ne_of_gt (h (j, w) (by simp))
    simp only [lookupCell, if_neg hj]
    exact ih (fun c hc => h c (List.mem_cons_of_mem _ hc))

theorem storeCell_sorted {l : List Host.Cell} (k : Nat) (v : Byte) (h : SortedCells l) :
    SortedCells (storeCell l k v) := by
  induction l with
  | nil => simp only [storeCell]; split <;> simp [SortedCells]
  | cons x l ih =>
    obtain ⟨j, w⟩ := x
    have hx := sortedCells_cons.1 h
    simp only [storeCell]
    split
    · rename_i hk
      split
      · exact h
      · refine sortedCells_cons.2 ⟨?_, h⟩
        intro c hc
        rcases List.mem_cons.1 hc with rfl | hc
        · exact hk
        · exact lt_trans hk (hx.1 c hc)
    · split
      · rename_i hk
        split
        · exact hx.2
        · exact sortedCells_cons.2 ⟨by simpa [hk] using hx.1, hx.2⟩
      · rename_i h1 h2
        refine sortedCells_cons.2 ⟨?_, ih hx.2⟩
        intro c hc
        rcases mem_storeCell hc with hc | ⟨rfl, -⟩
        · exact hx.1 c hc
        · simp only at *; omega

/-- Read after write, on sorted cells. -/
theorem lookupCell_storeCell {l : List Host.Cell} (k : Nat) (v : Byte) (j : Nat) (h : SortedCells l) :
    lookupCell (storeCell l k v) j = if j = k then v else lookupCell l j := by
  induction l with
  | nil =>
    simp only [storeCell]
    split
    · rename_i hv; simp [lookupCell, hv]
    · simp only [lookupCell]
      by_cases hj : j = k
      · subst hj; simp
      · rw [if_neg (Ne.symm hj), if_neg hj]
  | cons x l ih =>
    obtain ⟨i, w⟩ := x
    have hx := sortedCells_cons.1 h
    have below : ∀ a, a < i → lookupCell ((i, w) :: l) a = 0 := fun a ha =>
      lookupCell_of_lt (fun c hc => by
        rcases List.mem_cons.1 hc with rfl | hc
        · exact ha
        · exact lt_trans ha (hx.1 c hc))
    simp only [storeCell]
    split
    · rename_i hk
      split
      · rename_i hv
        split
        · rename_i hj; rw [hj, below k hk, hv]
        · rfl
      · rw [lookupCell]
        by_cases hj : j = k
        · simp [hj]
        · rw [if_neg (Ne.symm hj), if_neg hj]
    · split
      · rename_i hk
        subst hk
        split
        · rename_i hv
          by_cases hj : j = k
          · subst hj; rw [if_pos rfl, hv]; exact lookupCell_of_lt (fun c hc => hx.1 c hc)
          · rw [if_neg hj]; simp only [lookupCell, if_neg (Ne.symm hj)]
        · by_cases hj : j = k
          · subst hj; simp [lookupCell]
          · rw [if_neg hj]; simp only [lookupCell, if_neg (Ne.symm hj)]
      · rename_i h1 h2
        simp only [lookupCell]
        by_cases hi : i = j
        · subst hi; rw [if_pos rfl, if_neg (Ne.symm h2), if_pos rfl]
        · rw [if_neg hi, ih hx.2, if_neg hi]

/-! ## Keys and bytes -/

/-- Two addresses with one key are one address (20_memory R84). -/
theorem cellKey_inj {a b c d : Word} : cellKey a b = cellKey c d ↔ a = c ∧ b = d := by
  unfold cellKey
  constructor
  · intro h
    have := b.isLt
    have := d.isLt
    exact ⟨BitVec.eq_of_toNat_eq (by omega), BitVec.eq_of_toNat_eq (by omega)⟩
  · rintro ⟨rfl, rfl⟩; rfl

theorem cellKey_div (a b : Word) : cellKey a b / 65536 = a.toNat := by
  have := b.isLt
  unfold cellKey; omega

theorem cellKey_mod (a b : Word) : cellKey a b % 65536 = b.toNat := by
  have := b.isLt
  unfold cellKey; omega

/-- What the canonical form says, in parts. -/
theorem Memory.wf_iff (m : Memory) : m.wf = true ↔
    (m.segs.map Prod.fst).Pairwise (· < ·) ∧ (∀ x ∈ m.segs, x.1 < 65536 ∧ 1 ≤ x.2 ∧ x.2 ≤ 65536)
      ∧ SortedCells m.cells ∧ ∀ c ∈ m.cells, cellOk m.segs c = true := by
  simp only [Memory.wf, Bool.and_eq_true, rising_iff, List.all_eq_true, decide_eq_true_eq, and_assoc]

theorem Memory.sorted_of_wf {m : Memory} (h : m.wf = true) : SortedCells m.cells := ((Memory.wf_iff m).1 h).2.2.1

/-- A byte read after a byte write (20_memory R86, R87). -/
theorem Memory.peek_poke {m : Memory} (h : m.wf = true) (sel off a b : Word) (v : Byte) :
    (m.poke sel off v).peek a b = if a = sel ∧ b = off then v else m.peek a b := by
  unfold Memory.peek Memory.poke
  rw [lookupCell_storeCell _ _ _ (Memory.sorted_of_wf h)]
  simp only [cellKey_inj]

@[simp] theorem Memory.segs_poke (m : Memory) (sel off : Word) (v : Byte) : (m.poke sel off v).segs = m.segs := rfl

@[simp] theorem Memory.segSize_poke (m : Memory) (sel off a : Word) (v : Byte) :
    (m.poke sel off v).segSize a = m.segSize a := rfl

@[simp] theorem Memory.inBounds_poke (m : Memory) (sel off a b : Word) (v : Byte) :
    (m.poke sel off v).inBounds a b = m.inBounds a b := rfl

theorem cellOk_key {m : Memory} {sel off : Word} (h : m.inBounds sel off = true) {v : Byte} (hv : v ≠ 0) :
    cellOk m.segs (cellKey sel off, v) = true := by
  unfold Memory.inBounds Memory.segSize at h
  unfold cellOk
  rw [cellKey_div, cellKey_mod]
  cases hs : lookupSeg m.segs sel.toNat with
  | none => simp [hs] at h
  | some size =>
    simp only [hs, decide_eq_true_eq] at h
    simpa [h] using hv

/-- A byte write in bounds keeps the canonical form. -/
theorem Memory.wf_poke {m : Memory} (h : m.wf = true) {sel off : Word} (hb : m.inBounds sel off = true) (v : Byte) :
    (m.poke sel off v).wf = true := by
  obtain ⟨h1, h2, h3, h4⟩ := (Memory.wf_iff m).1 h
  refine (Memory.wf_iff _).2 ⟨h1, h2, storeCell_sorted _ _ h3, ?_⟩
  intro c hc
  rcases mem_storeCell hc with hc | ⟨rfl, hv⟩
  · exact h4 c hc
  · exact cellOk_key hb hv

/-! ## Runs of bytes -/

theorem ofNat_succ16 (off : Word) (k : Nat) : off + BitVec.ofNat 16 (k + 1) = off + 1 + BitVec.ofNat 16 k := by
  have h1 : (1 : Word).toNat = 1 := rfl
  apply BitVec.eq_of_toNat_eq
  simp only [BitVec.toNat_add, BitVec.toNat_ofNat, h1]
  omega

/-- `firstBad` finds nothing exactly when every byte is in bounds (20_memory R85). -/
theorem Memory.firstBad_eq_none (m : Memory) (sel off : Word) (n : Nat) :
    m.firstBad sel off n = none ↔ ∀ k < n, m.inBounds sel (off + BitVec.ofNat 16 k) = true := by
  induction n generalizing off with
  | zero => simp [Memory.firstBad]
  | succ n ih =>
    simp only [Memory.firstBad]
    constructor
    · intro h
      split at h
      · rename_i h0
        intro k hk
        cases k with
        | zero => simpa using h0
        | succ k => rw [ofNat_succ16]; exact (ih (off + 1)).1 h k (by omega)
      · cases h
    · intro h
      have h0 : m.inBounds sel off = true := by simpa using h 0 (by omega)
      rw [if_pos h0]
      exact (ih (off + 1)).2 (fun k hk => by rw [← ofNat_succ16]; exact h (k + 1) (by omega))

theorem State.readable_iff (s : State) (sel off : Word) (n : Nat) :
    s.readable sel off n = true ↔ s.mem.firstBad sel off n = none := by
  rw [Memory.firstBad_eq_none]
  simp [State.readable]

@[simp] theorem Memory.segs_pokeN (m : Memory) (sel off : Word) (n v : Nat) : (m.pokeN sel off n v).segs = m.segs := by
  induction n generalizing m off v with
  | zero => rfl
  | succ n ih => exact ih _ _ _

@[simp] theorem Memory.segSize_pokeN (m : Memory) (sel off a : Word) (n v : Nat) :
    (m.pokeN sel off n v).segSize a = m.segSize a := by
  simp [Memory.segSize]

@[simp] theorem Memory.inBounds_pokeN (m : Memory) (sel off a b : Word) (n v : Nat) :
    (m.pokeN sel off n v).inBounds a b = m.inBounds a b := by
  simp [Memory.inBounds]

@[simp] theorem Memory.firstBad_pokeN (m : Memory) (sel off a b : Word) (n v k : Nat) :
    (m.pokeN sel off n v).firstBad a b k = m.firstBad a b k := by
  induction k generalizing b with
  | zero => rfl
  | succ k ih => simp [Memory.firstBad, ih]

/-- A write of checked bytes keeps the canonical form (20_memory R89). -/
theorem Memory.wf_pokeN {m : Memory} (h : m.wf = true) {sel off : Word} {n : Nat} (v : Nat)
    (hb : ∀ k < n, m.inBounds sel (off + BitVec.ofNat 16 k) = true) : (m.pokeN sel off n v).wf = true := by
  induction n generalizing m off v with
  | zero => exact h
  | succ n ih =>
    have h0 : m.inBounds sel off = true := by simpa using hb 0 (by omega)
    refine ih (Memory.wf_poke h h0 _) _ (fun k hk => ?_)
    rw [Memory.inBounds_poke, ← ofNat_succ16]
    exact hb (k + 1) (by omega)

/-- A write of bytes changes no other byte (20_memory R87). -/
theorem Memory.peek_pokeN_other {m : Memory} (h : m.wf = true) {sel off : Word} {n : Nat} (v : Nat)
    (hb : ∀ k < n, m.inBounds sel (off + BitVec.ofNat 16 k) = true) {a b : Word}
    (ho : ∀ k < n, ¬(a = sel ∧ b = off + BitVec.ofNat 16 k)) : (m.pokeN sel off n v).peek a b = m.peek a b := by
  induction n generalizing m off v with
  | zero => rfl
  | succ n ih =>
    have h0 : m.inBounds sel off = true := by simpa using hb 0 (by omega)
    have hne : ¬(a = sel ∧ b = off) := by simpa using ho 0 (by omega)
    rw [Memory.pokeN, ih (Memory.wf_poke h h0 _) _ (fun k hk => ?_) (fun k hk => ?_), Memory.peek_poke h, if_neg hne]
    · rw [Memory.inBounds_poke, ← ofNat_succ16]; exact hb (k + 1) (by omega)
    · rw [← ofNat_succ16]; exact ho (k + 1) (by omega)

/-- A byte is one of `n` from an offset on exactly when its distance is below `n`. -/
theorem offset_lt_iff (off b : Word) (n : Nat) (hn : n ≤ 65536) :
    (b - off).toNat < n ↔ ∃ k < n, b = off + BitVec.ofNat 16 k := by
  constructor
  · intro h
    refine ⟨(b - off).toNat, h, ?_⟩
    rw [BitVec.ofNat_toNat, BitVec.setWidth_eq]
    rw [BitVec.add_comm, BitVec.sub_add_cancel]
  · rintro ⟨k, hk, rfl⟩
    rw [BitVec.add_comm, BitVec.add_sub_cancel, BitVec.toNat_ofNat]
    omega

/-- What a write of up to 65536 bytes reads back as, byte by byte. -/
theorem Memory.peek_pokeN {m : Memory} (h : m.wf = true) {sel off : Word} {n : Nat} (v : Nat) (hn : n ≤ 65536)
    (hb : ∀ k < n, m.inBounds sel (off + BitVec.ofNat 16 k) = true) {k : Nat} (hk : k < n) :
    (m.pokeN sel off n v).peek sel (off + BitVec.ofNat 16 k) = BitVec.ofNat 8 (v / 256 ^ k) := by
  induction n generalizing m off v k with
  | zero => omega
  | succ n ih =>
    have h0 : m.inBounds sel off = true := by simpa using hb 0 (by omega)
    have hb' : ∀ k < n, (m.poke sel off (BitVec.ofNat 8 v)).inBounds sel (off + 1 + BitVec.ofNat 16 k) = true :=
      fun k hk => by rw [Memory.inBounds_poke, ← ofNat_succ16]; exact hb (k + 1) (by omega)
    rw [Memory.pokeN]
    cases k with
    | zero =>
      rw [Memory.peek_pokeN_other (Memory.wf_poke h h0 _) _ hb' (fun j hj => ?_), Memory.peek_poke h]
      · simp
      · rintro ⟨-, hj'⟩
        rw [← ofNat_succ16] at hj'
        have := congrArg BitVec.toNat hj'
        simp only [BitVec.toNat_add, BitVec.toNat_ofNat] at this
        have := off.isLt
        omega
    | succ k =>
      rw [ofNat_succ16, ih (Memory.wf_poke h h0 _) _ (by omega) hb' (by omega), Nat.div_div_eq_div_mul, pow_succ',
        mul_comm]

/-- Writing `n` bytes and reading them back gives the number modulo its width (20_memory R88, R89). -/
theorem Memory.peekN_pokeN {m : Memory} (h : m.wf = true) {sel off : Word} {n : Nat} (v : Nat) (hn : n ≤ 65536)
    (hb : ∀ k < n, m.inBounds sel (off + BitVec.ofNat 16 k) = true) :
    (m.pokeN sel off n v).peekN sel off n = v % 256 ^ n := by
  have key : ∀ (m' : Memory) (off : Word) (n v : Nat),
      (∀ k < n, m'.peek sel (off + BitVec.ofNat 16 k) = BitVec.ofNat 8 (v / 256 ^ k)) →
      m'.peekN sel off n = v % 256 ^ n := by
    intro m' off n
    induction n generalizing off with
    | zero => intro v _; simp [Memory.peekN, Nat.mod_one]
    | succ n ih =>
      intro v hp
      have h0 : m'.peek sel off = BitVec.ofNat 8 v := by simpa using hp 0 (by omega)
      rw [Memory.peekN, h0, ih (off + 1) (v / 256) (fun k hk => by
        rw [← ofNat_succ16, hp (k + 1) (by omega), Nat.div_div_eq_div_mul, pow_succ']), BitVec.toNat_ofNat,
        show 2 ^ 8 = 256 from rfl, pow_succ' 256 n, Nat.mod_mul]
  exact key _ _ _ _ (fun k hk => Memory.peek_pokeN h v hn hb hk)

/-! ## Segments -/

theorem lookupSeg_insertSeg (l : List (Nat × Nat)) (sel size a : Nat) (h : (l.map Prod.fst).Pairwise (· < ·)) :
    lookupSeg (insertSeg l sel size) a = if a = sel then some size else lookupSeg l a := by
  induction l with
  | nil => simp [insertSeg, lookupSeg, eq_comm]
  | cons x l ih =>
    obtain ⟨k, z⟩ := x
    simp only [List.map_cons, List.pairwise_cons] at h
    simp only [insertSeg]
    split
    · simp [lookupSeg, eq_comm]
    · split
      · rename_i h1 h2
        subst h2
        by_cases ha : a = sel
        · simp [lookupSeg, ha]
        · simp [lookupSeg, ha, Ne.symm ha]
      · rename_i h1 h2
        simp only [lookupSeg]
        by_cases hk : k = a
        · subst hk; simp [Ne.symm h2]
        · simp [hk, ih h.2]

theorem mem_insertSeg {l : List (Nat × Nat)} {sel size : Nat} {x : Nat × Nat} (h : x ∈ insertSeg l sel size) :
    x ∈ l ∨ x = (sel, size) := by
  induction l with
  | nil => exact .inr (by simpa [insertSeg] using h)
  | cons y l ih =>
    obtain ⟨k, z⟩ := y
    simp only [insertSeg] at h
    split at h
    · rcases List.mem_cons.1 h with h | h
      · exact .inr h
      · exact .inl h
    · split at h
      · rcases List.mem_cons.1 h with h | h
        · exact .inr h
        · exact .inl (List.mem_cons_of_mem _ h)
      · rcases List.mem_cons.1 h with h | h
        · exact .inl (by simp [h])
        · rcases ih h with h | h
          · exact .inl (List.mem_cons_of_mem _ h)
          · exact .inr h

theorem insertSeg_sorted (l : List (Nat × Nat)) (sel size : Nat) (h : (l.map Prod.fst).Pairwise (· < ·)) :
    ((insertSeg l sel size).map Prod.fst).Pairwise (· < ·) := by
  induction l with
  | nil => simp [insertSeg]
  | cons x l ih =>
    obtain ⟨k, z⟩ := x
    have h' := h
    simp only [List.map_cons, List.pairwise_cons, List.mem_map, forall_exists_index, and_imp] at h'
    simp only [insertSeg]
    split
    · rename_i hk
      simp only [List.map_cons]
      refine List.pairwise_cons.2 ⟨?_, h⟩
      intro a ha
      rcases List.mem_cons.1 ha with rfl | ha
      · exact hk
      · obtain ⟨y, hy, rfl⟩ := List.mem_map.1 ha
        exact lt_trans hk (h'.1 y.1 y hy rfl)
    · split
      · rename_i h1 h2
        subst h2
        simpa using h
      · rename_i h1 h2
        simp only [List.map_cons]
        refine List.pairwise_cons.2 ⟨?_, ih h'.2⟩
        intro a ha
        obtain ⟨y, hy, rfl⟩ := List.mem_map.1 ha
        rcases mem_insertSeg hy with hy | rfl
        · exact h'.1 y.1 y hy rfl
        · omega

/-- Widening the segments keeps every cell in place. -/
theorem cellOk_mono {l l' : List (Nat × Nat)}
    (h : ∀ a size, lookupSeg l a = some size → ∃ size', lookupSeg l' a = some size' ∧ size ≤ size') {c : Host.Cell}
    (hc : cellOk l c = true) : cellOk l' c = true := by
  unfold cellOk at *
  simp only [Bool.and_eq_true] at *
  refine ⟨hc.1, ?_⟩
  cases hs : lookupSeg l (c.1 / 65536) with
  | none => simp [hs] at hc
  | some size =>
    obtain ⟨size', hs', hle⟩ := h _ _ hs
    have := hc.2
    simp only [hs, decide_eq_true_eq] at this
    simp only [hs', decide_eq_true_eq]
    omega

/-- A segment inserted, no smaller than the one it replaces if any, keeps the canonical form. -/
theorem Memory.wf_insertSeg {m : Memory} (h : m.wf = true) (sel : Word) (size : Nat) (h1 : 1 ≤ size) (h2 : size ≤ 65536)
    (hle : ∀ z, m.segSize sel = some z → z ≤ size) :
    Memory.wf { m with segs := insertSeg m.segs sel.toNat size } = true := by
  obtain ⟨a1, a2, a3, a4⟩ := (Memory.wf_iff m).1 h
  refine (Memory.wf_iff _).2 ⟨insertSeg_sorted _ _ _ a1, ?_, a3, ?_⟩
  · intro x hx
    rcases mem_insertSeg hx with hx | rfl
    · exact a2 x hx
    · exact ⟨sel.isLt, h1, h2⟩
  · intro c hc
    refine cellOk_mono (fun a z hz => ?_) (a4 c hc)
    rw [lookupSeg_insertSeg _ _ _ _ a1]
    by_cases ha : a = sel.toNat
    · subst ha; exact ⟨size, by simp, hle z hz⟩
    · exact ⟨z, by simp [ha, hz], le_refl z⟩

/-- A byte outside every segment is listed by no cell. -/
theorem Memory.peek_of_absent {m : Memory} (h : m.wf = true) {sel : Word} (hs : m.segSize sel = none) (off : Word) :
    m.peek sel off = 0 := by
  obtain ⟨-, -, a3, a4⟩ := (Memory.wf_iff m).1 h
  have hk : ∀ c ∈ m.cells, c.1 ≠ cellKey sel off := by
    intro c hc e
    have hok := a4 c hc
    have hd : c.1 / 65536 = sel.toNat := by rw [e]; unfold cellKey; have := off.isLt; omega
    have hs' : lookupSeg m.segs sel.toNat = none := hs
    simp [cellOk, hd, hs'] at hok
  unfold Memory.peek
  generalize m.cells = l at hk
  induction l with
  | nil => rfl
  | cons x l ih =>
    obtain ⟨j, w⟩ := x
    have hj : j ≠ cellKey sel off := hk (j, w) (by simp)
    simp only [lookupCell, if_neg hj]
    exact ih fun c hc => hk c (by simp [hc])

/-- Everything `AddSegment` can do (10_state R74). Refused exactly where its precondition fails; else the store keeps its
canonical form and its bytes, gains the segment that the call answers, of the size asked for and all zeros, and keeps
every other segment. -/
theorem Memory.addSegment_cases {m : Memory} (h : m.wf = true) (sel : Word) (size : Nat) :
    (¬(1 ≤ size ∧ size ≤ 65536 ∧ m.segSize sel = none) ∧ m.addSegment sel size = .error .segmentRefused)
    ∨ (1 ≤ size ∧ size ≤ 65536 ∧ m.segSize sel = none
      ∧ ∃ t, m.addSegment sel size = .ok ({ size := size, bytes := List.replicate size 0 }, t)
        ∧ t.wf = true ∧ t.cells = m.cells ∧ t.segment sel = some { size := size, bytes := List.replicate size 0 }
        ∧ ∀ a, a ≠ sel → t.segSize a = m.segSize a) := by
  by_cases hc : 1 ≤ size ∧ size ≤ 65536 ∧ m.segSize sel = none
  · refine .inr ⟨hc.1, hc.2.1, hc.2.2, { m with segs := insertSeg m.segs sel.toNat size }, if_pos hc,
      Memory.wf_insertSeg h sel size hc.1 hc.2.1 (fun z hz => by rw [hc.2.2] at hz; cases hz), rfl, ?_, ?_⟩
    · have hz : ∀ k, Memory.peek { m with segs := insertSeg m.segs sel.toNat size } sel k = 0 :=
        fun k => Memory.peek_of_absent h hc.2.2 k
      have hs : Memory.segSize { m with segs := insertSeg m.segs sel.toNat size } sel = some size := by
        simp [Memory.segSize, lookupSeg_insertSeg _ _ _ _ ((Memory.wf_iff m).1 h).1]
      simp only [Memory.segment, hs, hz, Option.map_some, Option.some.injEq, Segment.mk.injEq, true_and]
      exact List.eq_replicate_iff.2 ⟨by simp, fun b hb => by simpa using (List.mem_map.1 hb).elim fun _ e => e.2.symm⟩
    · intro a ha
      have ha' : a.toNat ≠ sel.toNat := fun e => ha (BitVec.eq_of_toNat_eq e)
      simp [Memory.segSize, lookupSeg_insertSeg _ _ _ _ ((Memory.wf_iff m).1 h).1, ha']
  · exact .inl ⟨hc, if_neg hc⟩

end Sys2Proof.Machine
end

