-- ==== Sys2Proof/Laws/State.lean ====
section
/-! SUPPORT. The small lemmas of the state's updates: what each leaves of each field, and reads after writes of registers,
slots and flags. -/

namespace Sys2Proof.Machine

variable (s : State)

/-! ## One field after one update -/

@[simp] theorem State.setR16_gpr (r : R16) (v : Word) : (s.setR16 r v).gpr = s.gpr.set r v := rfl
@[simp] theorem State.setR16_sreg (r : R16) (v : Word) : (s.setR16 r v).sreg = s.sreg := rfl
@[simp] theorem State.setR16_ip (r : R16) (v : Word) : (s.setR16 r v).ip = s.ip := rfl
@[simp] theorem State.setR16_flags (r : R16) (v : Word) : (s.setR16 r v).flags = s.flags := rfl
@[simp] theorem State.setR16_halted (r : R16) (v : Word) : (s.setR16 r v).halted = s.halted := rfl
@[simp] theorem State.setR16_fpu (r : R16) (v : Word) : (s.setR16 r v).fpu = s.fpu := rfl
@[simp] theorem State.setR16_mem (r : R16) (v : Word) : (s.setR16 r v).mem = s.mem := rfl
@[simp] theorem State.setR16_params (r : R16) (v : Word) : (s.setR16 r v).params = s.params := rfl

@[simp] theorem State.setR8_sreg (r : R8) (v : Byte) : (s.setR8 r v).sreg = s.sreg := rfl
@[simp] theorem State.setR8_ip (r : R8) (v : Byte) : (s.setR8 r v).ip = s.ip := rfl
@[simp] theorem State.setR8_flags (r : R8) (v : Byte) : (s.setR8 r v).flags = s.flags := rfl
@[simp] theorem State.setR8_halted (r : R8) (v : Byte) : (s.setR8 r v).halted = s.halted := rfl
@[simp] theorem State.setR8_fpu (r : R8) (v : Byte) : (s.setR8 r v).fpu = s.fpu := rfl
@[simp] theorem State.setR8_mem (r : R8) (v : Byte) : (s.setR8 r v).mem = s.mem := rfl
@[simp] theorem State.setR8_params (r : R8) (v : Byte) : (s.setR8 r v).params = s.params := rfl

@[simp] theorem State.setSeg_gpr (r : SReg) (v : Word) : (s.setSeg r v).gpr = s.gpr := rfl
@[simp] theorem State.setSeg_sreg (r : SReg) (v : Word) : (s.setSeg r v).sreg = s.sreg.set r v := rfl
@[simp] theorem State.setSeg_ip (r : SReg) (v : Word) : (s.setSeg r v).ip = s.ip := rfl
@[simp] theorem State.setSeg_flags (r : SReg) (v : Word) : (s.setSeg r v).flags = s.flags := rfl
@[simp] theorem State.setSeg_halted (r : SReg) (v : Word) : (s.setSeg r v).halted = s.halted := rfl
@[simp] theorem State.setSeg_fpu (r : SReg) (v : Word) : (s.setSeg r v).fpu = s.fpu := rfl
@[simp] theorem State.setSeg_mem (r : SReg) (v : Word) : (s.setSeg r v).mem = s.mem := rfl
@[simp] theorem State.setSeg_params (r : SReg) (v : Word) : (s.setSeg r v).params = s.params := rfl

@[simp] theorem State.setIp_gpr (v : Word) : (s.setIp v).gpr = s.gpr := rfl
@[simp] theorem State.setIp_sreg (v : Word) : (s.setIp v).sreg = s.sreg := rfl
@[simp] theorem State.setIp_ip (v : Word) : (s.setIp v).ip = v := rfl
@[simp] theorem State.setIp_flags (v : Word) : (s.setIp v).flags = s.flags := rfl
@[simp] theorem State.setIp_halted (v : Word) : (s.setIp v).halted = s.halted := rfl
@[simp] theorem State.setIp_fpu (v : Word) : (s.setIp v).fpu = s.fpu := rfl
@[simp] theorem State.setIp_mem (v : Word) : (s.setIp v).mem = s.mem := rfl
@[simp] theorem State.setIp_params (v : Word) : (s.setIp v).params = s.params := rfl

@[simp] theorem State.setFlags_gpr (f : Flags) : (s.setFlags f).gpr = s.gpr := rfl
@[simp] theorem State.setFlags_sreg (f : Flags) : (s.setFlags f).sreg = s.sreg := rfl
@[simp] theorem State.setFlags_ip (f : Flags) : (s.setFlags f).ip = s.ip := rfl
@[simp] theorem State.setFlags_flags (f : Flags) : (s.setFlags f).flags = f := rfl
@[simp] theorem State.setFlags_halted (f : Flags) : (s.setFlags f).halted = s.halted := rfl
@[simp] theorem State.setFlags_fpu (f : Flags) : (s.setFlags f).fpu = s.fpu := rfl
@[simp] theorem State.setFlags_mem (f : Flags) : (s.setFlags f).mem = s.mem := rfl
@[simp] theorem State.setFlags_params (f : Flags) : (s.setFlags f).params = s.params := rfl

@[simp] theorem State.setStatus_gpr (x : StatusFlags) : (s.setStatus x).gpr = s.gpr := rfl
@[simp] theorem State.setStatus_sreg (x : StatusFlags) : (s.setStatus x).sreg = s.sreg := rfl
@[simp] theorem State.setStatus_ip (x : StatusFlags) : (s.setStatus x).ip = s.ip := rfl
@[simp] theorem State.setStatus_flags (x : StatusFlags) : (s.setStatus x).flags = s.flags.withStatus x := rfl
@[simp] theorem State.setStatus_halted (x : StatusFlags) : (s.setStatus x).halted = s.halted := rfl
@[simp] theorem State.setStatus_fpu (x : StatusFlags) : (s.setStatus x).fpu = s.fpu := rfl
@[simp] theorem State.setStatus_mem (x : StatusFlags) : (s.setStatus x).mem = s.mem := rfl
@[simp] theorem State.setStatus_params (x : StatusFlags) : (s.setStatus x).params = s.params := rfl

@[simp] theorem State.setFpu_gpr (u : Fpu) : (s.setFpu u).gpr = s.gpr := rfl
@[simp] theorem State.setFpu_sreg (u : Fpu) : (s.setFpu u).sreg = s.sreg := rfl
@[simp] theorem State.setFpu_ip (u : Fpu) : (s.setFpu u).ip = s.ip := rfl
@[simp] theorem State.setFpu_flags (u : Fpu) : (s.setFpu u).flags = s.flags := rfl
@[simp] theorem State.setFpu_halted (u : Fpu) : (s.setFpu u).halted = s.halted := rfl
@[simp] theorem State.setFpu_fpu (u : Fpu) : (s.setFpu u).fpu = u := rfl
@[simp] theorem State.setFpu_mem (u : Fpu) : (s.setFpu u).mem = s.mem := rfl
@[simp] theorem State.setFpu_params (u : Fpu) : (s.setFpu u).params = s.params := rfl

@[simp] theorem State.setCsIp_gpr (c v : Word) : (s.setCsIp c v).gpr = s.gpr := rfl
@[simp] theorem State.setCsIp_sreg (c v : Word) : (s.setCsIp c v).sreg = { s.sreg with cs := c } := rfl
@[simp] theorem State.setCsIp_ip (c v : Word) : (s.setCsIp c v).ip = v := rfl
@[simp] theorem State.setCsIp_flags (c v : Word) : (s.setCsIp c v).flags = s.flags := rfl
@[simp] theorem State.setCsIp_halted (c v : Word) : (s.setCsIp c v).halted = s.halted := rfl
@[simp] theorem State.setCsIp_fpu (c v : Word) : (s.setCsIp c v).fpu = s.fpu := rfl
@[simp] theorem State.setCsIp_mem (c v : Word) : (s.setCsIp c v).mem = s.mem := rfl
@[simp] theorem State.setCsIp_params (c v : Word) : (s.setCsIp c v).params = s.params := rfl

@[simp] theorem State.setDxAx_sreg (v : BitVec 32) : (s.setDxAx v).sreg = s.sreg := rfl
@[simp] theorem State.setDxAx_ip (v : BitVec 32) : (s.setDxAx v).ip = s.ip := rfl
@[simp] theorem State.setDxAx_flags (v : BitVec 32) : (s.setDxAx v).flags = s.flags := rfl
@[simp] theorem State.setDxAx_halted (v : BitVec 32) : (s.setDxAx v).halted = s.halted := rfl
@[simp] theorem State.setDxAx_fpu (v : BitVec 32) : (s.setDxAx v).fpu = s.fpu := rfl
@[simp] theorem State.setDxAx_mem (v : BitVec 32) : (s.setDxAx v).mem = s.mem := rfl
@[simp] theorem State.setDxAx_params (v : BitVec 32) : (s.setDxAx v).params = s.params := rfl

@[simp] theorem State.releaseArgs_sreg (v : Word) : (s.releaseArgs v).sreg = s.sreg := rfl
@[simp] theorem State.releaseArgs_ip (v : Word) : (s.releaseArgs v).ip = s.ip := rfl
@[simp] theorem State.releaseArgs_flags (v : Word) : (s.releaseArgs v).flags = s.flags := rfl
@[simp] theorem State.releaseArgs_halted (v : Word) : (s.releaseArgs v).halted = s.halted := rfl
@[simp] theorem State.releaseArgs_fpu (v : Word) : (s.releaseArgs v).fpu = s.fpu := rfl
@[simp] theorem State.releaseArgs_mem (v : Word) : (s.releaseArgs v).mem = s.mem := rfl
@[simp] theorem State.releaseArgs_params (v : Word) : (s.releaseArgs v).params = s.params := rfl

@[simp] theorem State.jumpRel_gpr (v : Word) : (s.jumpRel v).gpr = s.gpr := rfl
@[simp] theorem State.jumpRel_sreg (v : Word) : (s.jumpRel v).sreg = s.sreg := rfl
@[simp] theorem State.jumpRel_ip (v : Word) : (s.jumpRel v).ip = s.ip + v := rfl
@[simp] theorem State.jumpRel_flags (v : Word) : (s.jumpRel v).flags = s.flags := rfl
@[simp] theorem State.jumpRel_halted (v : Word) : (s.jumpRel v).halted = s.halted := rfl
@[simp] theorem State.jumpRel_fpu (v : Word) : (s.jumpRel v).fpu = s.fpu := rfl
@[simp] theorem State.jumpRel_mem (v : Word) : (s.jumpRel v).mem = s.mem := rfl
@[simp] theorem State.jumpRel_params (v : Word) : (s.jumpRel v).params = s.params := rfl

@[simp] theorem State.stepSi_sreg (w : Nat) : (s.stepSi w).sreg = s.sreg := rfl
@[simp] theorem State.stepSi_ip (w : Nat) : (s.stepSi w).ip = s.ip := rfl
@[simp] theorem State.stepSi_flags (w : Nat) : (s.stepSi w).flags = s.flags := rfl
@[simp] theorem State.stepSi_halted (w : Nat) : (s.stepSi w).halted = s.halted := rfl
@[simp] theorem State.stepSi_fpu (w : Nat) : (s.stepSi w).fpu = s.fpu := rfl
@[simp] theorem State.stepSi_mem (w : Nat) : (s.stepSi w).mem = s.mem := rfl
@[simp] theorem State.stepSi_params (w : Nat) : (s.stepSi w).params = s.params := rfl

@[simp] theorem State.stepDi_sreg (w : Nat) : (s.stepDi w).sreg = s.sreg := rfl
@[simp] theorem State.stepDi_ip (w : Nat) : (s.stepDi w).ip = s.ip := rfl
@[simp] theorem State.stepDi_flags (w : Nat) : (s.stepDi w).flags = s.flags := rfl
@[simp] theorem State.stepDi_halted (w : Nat) : (s.stepDi w).halted = s.halted := rfl
@[simp] theorem State.stepDi_fpu (w : Nat) : (s.stepDi w).fpu = s.fpu := rfl
@[simp] theorem State.stepDi_mem (w : Nat) : (s.stepDi w).mem = s.mem := rfl
@[simp] theorem State.stepDi_params (w : Nat) : (s.stepDi w).params = s.params := rfl

/-! ## Reads after writes -/

theorem Gpr.get_set (g : Gpr) (r r' : R16) (v : Word) : (g.set r v).get r' = if r' = r then v else g.get r' := by
  cases r <;> cases r' <;> rfl

@[simp] theorem Gpr.get_set_same (g : Gpr) (r : R16) (v : Word) : (g.set r v).get r = v := by
  rw [Gpr.get_set, if_pos rfl]

theorem Gpr.get_set_other (g : Gpr) {r r' : R16} (v : Word) (h : r' ≠ r) : (g.set r v).get r' = g.get r' := by
  rw [Gpr.get_set, if_neg h]

@[simp] theorem Gpr.set_set (g : Gpr) (r : R16) (v w : Word) : (g.set r v).set r w = g.set r w := by
  cases r <;> rfl

@[simp] theorem Gpr.set_get (g : Gpr) (r : R16) : g.set r (g.get r) = g := by cases r <;> rfl

theorem SegRegs.get_set (g : SegRegs) (r r' : SReg) (v : Word) :
    (g.set r v).get r' = if r' = r then v else g.get r' := by
  cases r <;> cases r' <;> rfl

theorem State.r16_setR16 (r r' : R16) (v : Word) : (s.setR16 r v).r16 r' = if r' = r then v else s.r16 r' :=
  Gpr.get_set s.gpr r r' v

theorem State.seg_setSeg (r r' : SReg) (v : Word) : (s.setSeg r v).seg r' = if r' = r then v else s.seg r' :=
  SegRegs.get_set s.sreg r r' v

/-- A word register after a byte write: only the parent changes (10_state R32). -/
theorem State.r16_setR8_other {r : R8} {r' : R16} (v : Byte) (h : r' ≠ parentOf r) : (s.setR8 r v).r16 r' = s.r16 r' :=
  Gpr.get_set_other s.gpr _ h

@[simp] theorem lowByte_append (h l : Byte) : lowByte (h ++ l) = l := by
  unfold lowByte; exact BitVec.extractLsb'_append_eq_right

@[simp] theorem highByte_append (h l : Byte) : highByte (h ++ l) = h := by
  unfold highByte; exact BitVec.extractLsb'_append_eq_left

@[simp] theorem byte_halves (w : Word) : highByte w ++ lowByte w = w := by
  apply BitVec.eq_of_getLsbD_eq
  intro i hi
  simp only [highByte, lowByte, BitVec.getLsbD_append, BitVec.getLsbD_extractLsb']
  by_cases h : i < 8
  · simp [h]
  · have h8 : i - 8 < 8 := by omega
    have he : 8 + (i - 8) = i := by omega
    simp [h, h8, he]

/-- Byte registers are independent: a write is read back, and every other byte register is kept (10_state R32). -/
theorem State.r8_setR8 (r r' : R8) (v : Byte) : (s.setR8 r v).r8 r' = if r' = r then v else s.r8 r' := by
  cases r <;> cases r' <;> simp [State.setR8, State.r8, State.r16, parentOf, isHigh, Gpr.get, Gpr.set, State.setR16]

theorem Slots.get_set (f : Slots) (k j : BitVec 3) (x : Slot) : (f.set k x).get j = if j = k then x else f.get j := by
  obtain rfl | rfl | rfl | rfl | rfl | rfl | rfl | rfl : k = 0 ∨ k = 1 ∨ k = 2 ∨ k = 3 ∨ k = 4 ∨ k = 5 ∨ k = 6 ∨ k = 7 := by
    revert k; decide
  all_goals
    obtain rfl | rfl | rfl | rfl | rfl | rfl | rfl | rfl :
        j = 0 ∨ j = 1 ∨ j = 2 ∨ j = 3 ∨ j = 4 ∨ j = 5 ∨ j = 6 ∨ j = 7 := by
      revert j; decide
    all_goals rfl

/-- `ST(i)` read back after a write (10_state R51, R52). -/
theorem Fpu.st_setSt (u : Fpu) (i j : BitVec 3) (v : F80) : (u.setSt i v).st j = if j = i then v else u.st j := by
  unfold Fpu.setSt Fpu.st Fpu.phys
  simp only [Slots.get_set]
  by_cases h : j = i
  · simp [h]
  · simp [h]

end Sys2Proof.Machine
end

