-- ==== Sys2Proof/Laws/Ops.lean ====
section
/-! SUPPORT. One lemma for each shared operation, in the vocabulary of the statements: what it answers when its operands
are in bounds. The meanings' lemmas cite these and unfold nothing below them. -/

namespace Sys2Proof.Machine

open Sys2Proof.Spec

/-! ## Bounds -/

theorem readable_one (s : State) (sel off : Word) : s.readable sel off 1 = s.mem.inBounds sel off := by
  simp [State.readable, List.range_succ]

theorem readable_two (s : State) (sel off : Word) :
    s.readable sel off 2 = (s.mem.inBounds sel off && s.mem.inBounds sel (off + 1)) := by
  simp [State.readable, List.range_succ]

theorem readable_mono {s : State} {sel off : Word} {n k : Nat} (h : s.readable sel off n = true) (hk : k ≤ n) :
    s.readable sel off k = true := by
  simp only [State.readable, List.all_eq_true, List.mem_range] at *
  exact fun j hj => h j (by omega)

/-- A part of a run of bytes is in bounds when the run is. -/
theorem readable_part {s : State} {sel off : Word} {n j k : Nat} (h : s.readable sel off n = true) (hk : j + k ≤ n) :
    s.readable sel (off + BitVec.ofNat 16 j) k = true := by
  simp only [State.readable, List.all_eq_true, List.mem_range] at *
  intro i hi
  have := h (j + i) (by omega)
  rwa [BitVec.ofNat_add, ← BitVec.add_assoc] at this

theorem readable_congr {s t : State} (h : t.mem.segs = s.mem.segs) (sel off : Word) (n : Nat) :
    t.readable sel off n = s.readable sel off n := by
  simp [State.readable, Memory.inBounds, Memory.segSize, h]

/-! ## Memory -/

theorem State.memRead_ok {s : State} {sel off : Word} {n : Nat} (h : s.readable sel off n = true) :
    s.memRead sel off n = .ok (s.mem.peekN sel off n) := by
  simp [State.memRead, (s.readable_iff sel off n).1 h]

theorem State.memWrite_ok {s : State} {sel off : Word} {n : Nat} (v : Nat) (h : s.readable sel off n = true) :
    s.memWrite sel off n v = .ok { s with mem := s.mem.pokeN sel off n v } := by
  simp [State.memWrite, (s.readable_iff sel off n).1 h]

/-- What a write that answers says. -/
theorem State.memWrite_inv {s t : State} {sel off : Word} {n v : Nat} (h : s.memWrite sel off n v = .ok t) :
    s.readable sel off n = true ∧ t = { s with mem := s.mem.pokeN sel off n v } := by
  unfold State.memWrite at h
  split at h
  · cases h
  · rename_i hb
    exact ⟨(s.readable_iff sel off n).2 hb, by cases h; rfl⟩

theorem State.memRead_inv {s : State} {sel off : Word} {n v : Nat} (h : s.memRead sel off n = .ok v) :
    s.readable sel off n = true ∧ v = s.mem.peekN sel off n := by
  unfold State.memRead at h
  split at h
  · cases h
  · rename_i hb
    exact ⟨(s.readable_iff sel off n).2 hb, by cases h; rfl⟩

theorem peekN_one (m : Memory) (sel off : Word) : m.peekN sel off 1 = (m.peek sel off).toNat := by
  simp [Memory.peekN]

theorem peekN_two (m : Memory) (sel off : Word) :
    BitVec.ofNat 16 (m.peekN sel off 2) = m.peek sel (off + 1) ++ m.peek sel off := by
  apply BitVec.eq_of_toNat_eq
  have h1 := (m.peek sel off).isLt
  have h2 := (m.peek sel (off + 1)).isLt
  simp only [Memory.peekN, BitVec.toNat_append, BitVec.toNat_ofNat]
  rw [← Nat.shiftLeft_add_eq_or_of_lt h1, Nat.shiftLeft_eq]
  omega

theorem pokeN_one (m : Memory) (sel off : Word) (v : Byte) : m.pokeN sel off 1 v.toNat = m.poke sel off v := by
  simp [Memory.pokeN]

theorem pokeN_two (m : Memory) (sel off : Word) (v : Word) :
    m.pokeN sel off 2 v.toNat = (m.poke sel off (lowByte v)).poke sel (off + 1) (highByte v) := by
  have h1 : BitVec.ofNat 8 v.toNat = lowByte v := by
    apply BitVec.eq_of_toNat_eq; simp [lowByte]
  have h2 : BitVec.ofNat 8 (v.toNat / 256) = highByte v := by
    apply BitVec.eq_of_toNat_eq; simp [highByte, Nat.shiftRight_eq_div_pow]
  simp [Memory.pokeN, h1, h2]

theorem State.read8_ok {s : State} {sel off : Word} (h : s.readable sel off 1 = true) :
    s.read8 sel off = .ok (s.mem.peek sel off) := by
  have : s.read8 sel off = .ok (BitVec.ofNat 8 (s.mem.peekN sel off 1)) := by
    simp [State.read8, State.readBits, State.memRead_ok h, Except.map]
  rw [this, peekN_one]; simp

theorem State.read16_ok {s : State} {sel off : Word} (h : s.readable sel off 2 = true) :
    s.read16 sel off = .ok (memWord s sel off) := by
  have : s.read16 sel off = .ok (BitVec.ofNat 16 (s.mem.peekN sel off 2)) := by
    simp [State.read16, State.readBits, State.memRead_ok h, Except.map]
  rw [this, peekN_two]; rfl

theorem State.write8_ok {s : State} {sel off : Word} (v : Byte) (h : s.readable sel off 1 = true) :
    s.write8 sel off v = .ok (with8 s (.mem sel off) v) := by
  rw [State.write8, State.memWrite_ok _ h, pokeN_one]; rfl

theorem State.write16_ok {s : State} {sel off : Word} (v : Word) (h : s.readable sel off 2 = true) :
    s.write16 sel off v = .ok (with16 s (.mem sel off) v) := by
  rw [State.write16, State.memWrite_ok _ h, pokeN_two]; rfl

/-- Two words one after the other. -/
theorem State.readPair_ok {s : State} {sel off : Word} (h : s.readable sel off 4 = true) :
    s.readPair sel off = .ok (memWord s sel off, memWord s sel (off + 2)) := by
  have h2 : s.readable sel (off + 2) 2 = true := readable_part (j := 2) (k := 2) h (by omega)
  simp only [State.readPair, State.read16_ok (readable_mono h (by omega : 2 ≤ 4)), State.read16_ok h2, Bind.bind,
    Except.bind, pure, Except.pure]

/-! ## Operands -/

/-- A location that can be read and written. -/
def Loc.ok {ρ : Type} (s : State) (n : Nat) : Loc ρ → Prop
  | .reg _ => True
  | .mem sel off => s.readable sel off n = true

theorem loc_ok {ρ : Type} {s : State} {d : Rm ρ} {n : Nat} (h : s.operandOk d n = true) : (s.loc d).ok s n := by
  cases d with
  | reg r => trivial
  | mem m => exact h

theorem State.get8_ok {s : State} {l : Loc R8} (h : l.ok s 1) : s.get8 l = .ok (val8 s l) := by
  cases l with
  | reg r => rfl
  | mem sel off => exact State.read8_ok h

theorem State.put8_ok {s : State} {l : Loc R8} (v : Byte) (h : l.ok s 1) : s.put8 l v = .ok (with8 s l v) := by
  cases l with
  | reg r => rfl
  | mem sel off => exact State.write8_ok v h

theorem State.get16_ok {s : State} {l : Loc R16} (h : l.ok s 2) : s.get16 l = .ok (val16 s l) := by
  cases l with
  | reg r => rfl
  | mem sel off => exact State.read16_ok h

theorem State.put16_ok {s : State} {l : Loc R16} (v : Word) (h : l.ok s 2) : s.put16 l v = .ok (with16 s l v) := by
  cases l with
  | reg r => rfl
  | mem sel off => exact State.write16_ok v h

@[simp] theorem with8_flags (s : State) (l : Loc R8) (v : Byte) : (with8 s l v).flags = s.flags := by
  cases l <;> rfl

@[simp] theorem with16_flags (s : State) (l : Loc R16) (v : Word) : (with16 s l v).flags = s.flags := by
  cases l <;> rfl

@[simp] theorem with8_segs (s : State) (l : Loc R8) (v : Byte) : (with8 s l v).mem.segs = s.mem.segs := by
  cases l <;> rfl

@[simp] theorem with16_segs (s : State) (l : Loc R16) (v : Word) : (with16 s l v).mem.segs = s.mem.segs := by
  cases l <;> rfl

theorem Loc.ok_congr {ρ : Type} {s t : State} {l : Loc ρ} {n : Nat} (h : l.ok s n) (hm : t.mem.segs = s.mem.segs) :
    l.ok t n := by
  cases l with
  | reg r => trivial
  | mem sel off => exact (readable_congr hm sel off n).trans h

/-! ## Two- and one-operand instructions -/

theorem State.alu8_ok {s : State} {op : AluOp} {l : Loc R8} (v : Byte) (h : l.ok s 1) :
    s.alu8 op l v = .ok { (if op.writes then with8 s l (op.eval (val8 s l) v s.flags.CF).1 else s) with
      flags := s.flags.withStatus (op.eval (val8 s l) v s.flags.CF).2 } := by
  simp only [State.alu8, State.get8_ok h, Bind.bind, Except.bind]
  split
  · simp [State.put8_ok _ h, pure, Except.pure, State.setStatus, State.setFlags]
  · simp [pure, Except.pure, State.setStatus, State.setFlags]

theorem State.alu16_ok {s : State} {op : AluOp} {l : Loc R16} (v : Word) (h : l.ok s 2) :
    s.alu16 op l v = .ok { (if op.writes then with16 s l (op.eval (val16 s l) v s.flags.CF).1 else s) with
      flags := s.flags.withStatus (op.eval (val16 s l) v s.flags.CF).2 } := by
  simp only [State.alu16, State.get16_ok h, Bind.bind, Except.bind]
  split
  · simp [State.put16_ok _ h, pure, Except.pure, State.setStatus, State.setFlags]
  · simp [pure, Except.pure, State.setStatus, State.setFlags]

theorem State.aluFrom8_ok {s : State} {op : AluOp} {r : R8} {x : Rm8} (h : s.operandOk x 1 = true) :
    s.aluFrom8 op r x = s.alu8 op (.reg r) (val8 s (s.loc x)) := by
  simp [State.aluFrom8, State.get8_ok (loc_ok h), Bind.bind, Except.bind]

theorem State.aluFrom16_ok {s : State} {op : AluOp} {r : R16} {x : Rm16} (h : s.operandOk x 2 = true) :
    s.aluFrom16 op r x = s.alu16 op (.reg r) (val16 s (s.loc x)) := by
  simp [State.aluFrom16, State.get16_ok (loc_ok h), Bind.bind, Except.bind]

theorem State.modify8_ok {s : State} {l : Loc R8} (f : Byte → Byte) (g : Byte → Flags) (h : l.ok s 1) :
    s.modify8 l f g = .ok { with8 s l (f (val8 s l)) with flags := g (val8 s l) } := by
  simp [State.modify8, State.get8_ok h, State.put8_ok _ h, Bind.bind, Except.bind, pure, Except.pure, State.setFlags]

theorem State.modify16_ok {s : State} {l : Loc R16} (f : Word → Word) (g : Word → Flags) (h : l.ok s 2) :
    s.modify16 l f g = .ok { with16 s l (f (val16 s l)) with flags := g (val16 s l) } := by
  simp [State.modify16, State.get16_ok h, State.put16_ok _ h, Bind.bind, Except.bind, pure, Except.pure, State.setFlags]

theorem State.shift8_ok {s : State} {op : ShiftOp} {d : Rm8} (raw : Byte) (h : s.operandOk d 1 = true) :
    s.shift8 op d raw = .ok (if maskedCount raw = 0 then s else
      { with8 s (s.loc d) (op.eval (val8 s (s.loc d)) (maskedCount raw) s.flags).1 with
        flags := (op.eval (val8 s (s.loc d)) (maskedCount raw) s.flags).2 }) := by
  simp only [State.shift8, State.get8_ok (loc_ok h), Bind.bind, Except.bind]
  split
  · rfl
  · simp [State.put8_ok _ (loc_ok h), pure, Except.pure, State.setFlags]

theorem State.shift16_ok {s : State} {op : ShiftOp} {d : Rm16} (raw : Byte) (h : s.operandOk d 2 = true) :
    s.shift16 op d raw = .ok (if maskedCount raw = 0 then s else
      { with16 s (s.loc d) (op.eval (val16 s (s.loc d)) (maskedCount raw) s.flags).1 with
        flags := (op.eval (val16 s (s.loc d)) (maskedCount raw) s.flags).2 }) := by
  simp only [State.shift16, State.get16_ok (loc_ok h), Bind.bind, Except.bind]
  split
  · rfl
  · simp [State.put16_ok _ (loc_ok h), pure, Except.pure, State.setFlags]

/-! ## The stack -/

theorem State.canPush_one {s : State} (h : s.canPush 1 = true) :
    ¬ s.gpr.sp.toNat < 2 ∧ s.readable s.sreg.ss (s.gpr.sp - 2) 2 = true := by
  simp only [State.canPush, Bool.and_eq_true, decide_eq_true_eq] at h
  exact ⟨by omega, h.2⟩

theorem State.push16_ok {s : State} (v : Word) (h : s.canPush 1 = true) : s.push16 v = .ok (pushed s v) := by
  obtain ⟨h1, h2⟩ := State.canPush_one h
  rw [State.push16, State.pushN, if_neg h1, show BitVec.ofNat 16 2 = (2 : Word) from rfl, State.memWrite_ok _ h2, pokeN_two]
  rfl

/-- After one push, one less can be pushed. -/
theorem canPush_pushed {s : State} {k : Nat} (v : Word) (h : s.canPush (k + 1) = true) :
    (pushed s v).canPush k = true := by
  simp only [State.canPush, Bool.and_eq_true, decide_eq_true_eq] at *
  obtain ⟨h1, h2⟩ := h
  have hsp : (pushed s v).gpr.sp = s.gpr.sp - 2 := rfl
  have hlt := s.gpr.sp.isLt
  have e2 : (2 : Word).toNat = 2 := rfl
  refine ⟨?_, ?_⟩
  · rw [hsp, BitVec.toNat_sub, e2]
    omega
  · rw [readable_congr (s := s) (by simp [pushed, withSp])]
    have hss : (pushed s v).sreg.ss = s.sreg.ss := rfl
    rw [hss, hsp]
    have : s.gpr.sp - 2 - BitVec.ofNat 16 (2 * k) = s.gpr.sp - BitVec.ofNat 16 (2 * (k + 1)) + BitVec.ofNat 16 0 := by
      apply BitVec.eq_of_toNat_eq
      simp only [BitVec.toNat_sub, BitVec.toNat_add, BitVec.toNat_ofNat, e2]
      omega
    rw [this]
    exact readable_part h2 (by omega)

theorem canPush_mono {s : State} {k j : Nat} (h : s.canPush k = true) (hj : j ≤ k) : s.canPush j = true := by
  simp only [State.canPush, Bool.and_eq_true, decide_eq_true_eq] at *
  obtain ⟨h1, h2⟩ := h
  refine ⟨by omega, ?_⟩
  have hlt := s.gpr.sp.isLt
  have : s.gpr.sp - BitVec.ofNat 16 (2 * j) = s.gpr.sp - BitVec.ofNat 16 (2 * k) + BitVec.ofNat 16 (2 * k - 2 * j) := by
    apply BitVec.eq_of_toNat_eq
    simp only [BitVec.toNat_sub, BitVec.toNat_add, BitVec.toNat_ofNat]
    omega
  rw [this]
  exact readable_part h2 (by omega)

theorem State.pushList_ok {s : State} (vs : List Word) (h : s.canPush vs.length = true) :
    s.pushList vs = .ok (vs.foldl pushed s) := by
  induction vs generalizing s with
  | nil => rfl
  | cons v vs ih =>
    have h1 : s.canPush 1 = true := canPush_mono h (by simp)
    simp only [State.pushList, State.push16_ok v h1, Bind.bind, Except.bind]
    exact ih (canPush_pushed v h)

/-- A word that can be popped is in bounds. -/
theorem State.readable_of_canPopAt {s : State} {j : Nat} (h : s.canPopAt j = true) :
    s.readable s.sreg.ss (s.gpr.sp + BitVec.ofNat 16 (2 * j)) 2 = true := by
  unfold State.canPopAt at h
  rw [readable_two]
  unfold Memory.inBounds
  cases hs : s.mem.segSize s.sreg.ss with
  | none => simp [hs] at h
  | some size =>
    simp only [hs, decide_eq_true_eq] at h
    simp only [Bool.and_eq_true, decide_eq_true_eq]
    have e1 : (1 : Word).toNat = 1 := rfl
    refine ⟨by omega, ?_⟩
    rw [BitVec.toNat_add, e1]
    omega

theorem State.pop16_ok {s : State} (h : s.canPopAt 0 = true) : s.pop16 = .ok (stackTop s 0, dropped s 1) := by
  have hr := State.readable_of_canPopAt h
  simp only [Nat.mul_zero, BitVec.add_zero] at hr
  unfold State.canPopAt at h
  simp only [Nat.mul_zero, BitVec.add_zero] at h
  unfold State.pop16 State.popN
  cases hs : s.mem.segSize s.sreg.ss with
  | none => simp [hs] at h
  | some size =>
    simp only [hs, decide_eq_true_eq] at h
    have hlt : ¬ size < s.gpr.sp.toNat + 2 := by omega
    simp only [if_neg hlt, State.memRead_ok hr, Except.map, peekN_two]
    simp [stackTop, memWord, val16, dropped, withSp, State.setR16, Gpr.set]

theorem canPopAt_dropped (s : State) (k j : Nat) : (dropped s k).canPopAt j = s.canPopAt (k + j) := by
  unfold State.canPopAt
  have : (dropped s k).gpr.sp + BitVec.ofNat 16 (2 * j) = s.gpr.sp + BitVec.ofNat 16 (2 * (k + j)) := by
    show s.gpr.sp + BitVec.ofNat 16 (2 * k) + BitVec.ofNat 16 (2 * j) = _
    rw [BitVec.add_assoc, ← BitVec.ofNat_add, Nat.mul_add]
  rw [this]; rfl

theorem stackTop_dropped (s : State) (k j : Nat) : stackTop (dropped s k) j = stackTop s (k + j) := by
  unfold stackTop
  have : (dropped s k).gpr.sp + BitVec.ofNat 16 (2 * j) = s.gpr.sp + BitVec.ofNat 16 (2 * (k + j)) := by
    show s.gpr.sp + BitVec.ofNat 16 (2 * k) + BitVec.ofNat 16 (2 * j) = _
    rw [BitVec.add_assoc, ← BitVec.ofNat_add, Nat.mul_add]
  rw [this]; rfl

theorem dropped_dropped (s : State) (k j : Nat) : dropped (dropped s k) j = dropped s (k + j) := by
  unfold dropped
  have : (withSp s (s.gpr.sp + BitVec.ofNat 16 (2 * k))).gpr.sp + BitVec.ofNat 16 (2 * j)
      = s.gpr.sp + BitVec.ofNat 16 (2 * (k + j)) := by
    show s.gpr.sp + BitVec.ofNat 16 (2 * k) + BitVec.ofNat 16 (2 * j) = _
    rw [BitVec.add_assoc, ← BitVec.ofNat_add, Nat.mul_add]
  rw [this]; rfl

theorem State.canPopAt_of_canPop {s : State} {k j : Nat} (h : s.canPop k = true) (hj : j < k) : s.canPopAt j = true := by
  simp only [State.canPop, List.all_eq_true, List.mem_range] at h
  exact h j hj

/-! ## The x87 check -/

theorem State.fpuCheck_ok {s : State} {reads : List StIdx} {pushes : Bool} (h : s.fpuReady reads pushes = true) :
    s.fpuCheck reads pushes = .ok () := by
  unfold State.fpuReady at h
  unfold State.fpuCheck
  cases hp : s.params.ringPolicy with
  | wrap => rfl
  | fault =>
    simp only [hp, reduceCtorEq, decide_false, Bool.false_or] at h
    simp only [h, if_true]

end Sys2Proof.Machine
end

