-- ==== Sys2Proof/Laws/Frames.lean ====
section
/-! SUPPORT. What each shared operation leaves unchanged, and what it can fault with: one lemma an operation, in the terms
of `Scope` (what may change) and `Frame` (nothing else does), which compose. -/

namespace Sys2Proof.Machine

/-! ## Outcomes -/

/-- Every answer meets `Q`, every fault meets `E`. -/
def Ends {α : Type} (E : Fault → Prop) (Q : α → Prop) : Except Fault α → Prop
  | .ok a => Q a
  | .error f => E f

theorem Ends.bind {α β : Type} {E : Fault → Prop} {P : α → Prop} {Q : β → Prop} {o : Except Fault α}
    {k : α → Except Fault β} (h : Ends E P o) (hk : ∀ a, P a → Ends E Q (k a)) : Ends E Q (o >>= k) := by
  cases o with
  | ok a => exact hk a h
  | error f => exact h

theorem Ends.mono {α : Type} {E F : Fault → Prop} {P Q : α → Prop} {o : Except Fault α} (h : Ends E P o)
    (he : ∀ f, E f → F f) (hq : ∀ a, P a → Q a) : Ends F Q o := by
  cases o with
  | ok a => exact hq a h
  | error f => exact he f h

theorem Ends.map {α β : Type} {E : Fault → Prop} {Q : β → Prop} {o : Except Fault α} {g : α → β}
    (h : Ends E (fun a => Q (g a)) o) : Ends E Q (o.map g) := by
  cases o with
  | ok a => exact h
  | error f => exact h

/-! ## What may change -/

/-- What an operation may change: general registers, flags and segment registers by name; `IP`; the halted marker; the
x87 state as a whole, and in it the condition bits, the control word, and the clearing of a sticky flag. -/
structure Scope where
  regs : List R16 := []
  flags : List FlagName := []
  segs : List SReg := []
  ip : Bool := false
  halted : Bool := false
  fpu : Bool := false
  cond : Bool := false
  cw : Bool := false
  clears : Bool := false

/-- Nothing outside the scope changes, nor a byte of memory outside `W`, nor the parameters, nor a segment; the canonical
form of the store is kept. -/
structure Frame (c : Scope) (W : Word → Word → Prop) (s t : State) : Prop where
  regs : ∀ r, r ∉ c.regs → t.r16 r = s.r16 r
  flags : ∀ f, f ∉ c.flags → t.flags.get f = s.flags.get f
  segs : ∀ g, g ∉ c.segs → t.seg g = s.seg g
  ip : c.ip = false → t.ip = s.ip
  halted : c.halted = false → t.halted = s.halted
  fpu : c.fpu = false → t.fpu = s.fpu
  cond : c.cond = false → t.fpu.cond = s.fpu.cond
  cw : c.cw = false → t.fpu.cw = s.fpu.cw
  sticky : c.clears = false → t.fpu.exc = s.fpu.exc.or t.fpu.exc
  params : t.params = s.params
  memSegs : t.mem.segs = s.mem.segs
  wf : s.mem.wf = true → t.mem.wf = true
  bytes : s.mem.wf = true → ∀ a b, ¬W a b → t.mem.peek a b = s.mem.peek a b

/-- No byte. -/
def nowhere : Word → Word → Prop := fun _ _ => False

theorem ExcFlags.or_self (x : ExcFlags) : x.or x = x := by simp [ExcFlags.or]

theorem ExcFlags.or_assoc (x y z : ExcFlags) : (x.or y).or z = x.or (y.or z) := by simp [ExcFlags.or, Bool.or_assoc]

theorem Frame.refl (c : Scope) (W : Word → Word → Prop) (s : State) : Frame c W s s where
  regs _ _ := rfl
  flags _ _ := rfl
  segs _ _ := rfl
  ip _ := rfl
  halted _ := rfl
  fpu _ := rfl
  cond _ := rfl
  cw _ := rfl
  sticky _ := (ExcFlags.or_self _).symm
  params := rfl
  memSegs := rfl
  wf h := h
  bytes _ _ _ _ := rfl

theorem Frame.trans {c : Scope} {W : Word → Word → Prop} {s t u : State} (h : Frame c W s t) (k : Frame c W t u) :
    Frame c W s u where
  regs r hr := (k.regs r hr).trans (h.regs r hr)
  flags f hf := (k.flags f hf).trans (h.flags f hf)
  segs g hg := (k.segs g hg).trans (h.segs g hg)
  ip e := (k.ip e).trans (h.ip e)
  halted e := (k.halted e).trans (h.halted e)
  fpu e := (k.fpu e).trans (h.fpu e)
  cond e := (k.cond e).trans (h.cond e)
  cw e := (k.cw e).trans (h.cw e)
  sticky e := by
    have h1 := h.sticky e
    have h2 := k.sticky e
    rw [h2, ← ExcFlags.or_assoc, ← h1]
  params := k.params.trans h.params
  memSegs := k.memSegs.trans h.memSegs
  wf e := k.wf (h.wf e)
  bytes e a b n := (k.bytes (h.wf e) a b n).trans (h.bytes e a b n)

/-- A wider scope. -/
structure Scope.Le (c d : Scope) : Prop where
  regs : ∀ r ∈ c.regs, r ∈ d.regs := by simp
  flags : ∀ f ∈ c.flags, f ∈ d.flags := by simp
  segs : ∀ g ∈ c.segs, g ∈ d.segs := by simp
  ip : c.ip = true → d.ip = true := by simp
  halted : c.halted = true → d.halted = true := by simp
  fpu : c.fpu = true → d.fpu = true := by simp
  cond : c.cond = true → d.cond = true := by simp
  cw : c.cw = true → d.cw = true := by simp
  clears : c.clears = true → d.clears = true := by simp

theorem Scope.Le.refl (c : Scope) : Scope.Le c c :=
  ⟨fun _ h => h, fun _ h => h, fun _ h => h, fun h => h, fun h => h, fun h => h, fun h => h, fun h => h, fun h => h⟩

theorem Bool.false_of_imp {x y : Bool} (h : x = true → y = true) (hy : y = false) : x = false := by
  cases x
  · rfl
  · rw [h rfl] at hy; cases hy

theorem Frame.mono {c d : Scope} {W V : Word → Word → Prop} {s t : State} (h : Frame c W s t) (hc : Scope.Le c d)
    (hw : ∀ a b, W a b → V a b) : Frame d V s t where
  regs r hr := h.regs r (fun e => hr (hc.regs r e))
  flags f hf := h.flags f (fun e => hf (hc.flags f e))
  segs g hg := h.segs g (fun e => hg (hc.segs g e))
  ip e := h.ip (Bool.false_of_imp hc.ip e)
  halted e := h.halted (Bool.false_of_imp hc.halted e)
  fpu e := h.fpu (Bool.false_of_imp hc.fpu e)
  cond e := h.cond (Bool.false_of_imp hc.cond e)
  cw e := h.cw (Bool.false_of_imp hc.cw e)
  sticky e := h.sticky (Bool.false_of_imp hc.clears e)
  params := h.params
  memSegs := h.memSegs
  wf := h.wf
  bytes e a b n := h.bytes e a b (fun m => n (hw a b m))

/-! ## Faults -/

/-- The addressing faults of an instruction that starts in a state with the segments and `SS` of `s`: a byte out of
bounds, or an offset that a push or a pop names (20_memory R85, R100, R101). -/
def Misplaced (s : State) : Fault → Prop
  | .addressing sel off => s.mem.inBounds sel off = false
      ∨ (sel = s.sreg.ss ∧ (s.mem.inBounds sel (off + 1) = false ∨ 0xFFFE ≤ off.toNat))
  | .invalidOpcode _ _ => False
  | .fpuStack => False

theorem Misplaced.congr {s t : State} (hm : t.mem.segs = s.mem.segs) (hs : t.sreg.ss = s.sreg.ss) {f : Fault}
    (h : Misplaced t f) : Misplaced s f := by
  cases f with
  | addressing sel off => simpa only [Misplaced, Memory.inBounds, Memory.segSize, hm, hs] using h
  | invalidOpcode a b => exact h
  | fpuStack => exact h

/-- An operation that ends in a frame, or in an addressing fault. -/
def Framed (c : Scope) (W : Word → Word → Prop) (s : State) (o : Except Fault State) : Prop :=
  Ends (Misplaced s) (Frame c W s) o

/-- Reads: any value, or an addressing fault. -/
def Reads {α : Type} (s : State) (o : Except Fault α) : Prop := Ends (Misplaced s) (fun _ => True) o

theorem Framed.bind {c : Scope} {W : Word → Word → Prop} {s : State} {o : Except Fault State}
    {k : State → Except Fault State} (h : Framed c W s o) (hss : SReg.ss ∉ c.segs)
    (hk : ∀ t, Frame c W s t → Framed c W t (k t)) : Framed c W s (o >>= k) :=
  Ends.bind h (fun t ht => (hk t ht).mono
    (fun _ e => e.congr ht.memSegs (ht.segs .ss hss)) (fun _ e => ht.trans e))

/-- What an operation does after a frame. -/
theorem Framed.after {c : Scope} {W : Word → Word → Prop} {s t : State} {o : Except Fault State} (h : Framed c W t o)
    (hf : Frame c W s t) (hss : SReg.ss ∉ c.segs) : Framed c W s o :=
  Ends.mono h (fun _ e => e.congr hf.memSegs (hf.segs .ss hss)) (fun _ e => hf.trans e)

theorem Reads.bind {α : Type} {c : Scope} {W : Word → Word → Prop} {s : State} {o : Except Fault α}
    {k : α → Except Fault State} (h : Reads s o) (hk : ∀ v, Framed c W s (k v)) : Framed c W s (o >>= k) :=
  Ends.bind h (fun v _ => hk v)

theorem Framed.mono {c d : Scope} {W V : Word → Word → Prop} {s : State} {o : Except Fault State} (h : Framed c W s o)
    (hc : Scope.Le c d) (hw : ∀ a b, W a b → V a b) : Framed d V s o :=
  Ends.mono h (fun _ e => e) (fun _ e => e.mono hc hw)

theorem Framed.ok {c : Scope} {W : Word → Word → Prop} {s t : State} (h : Frame c W s t) : Framed c W s (.ok t) := h

theorem Framed.pure {c : Scope} {W : Word → Word → Prop} {s t : State} (h : Frame c W s t) :
    Framed c W s (Pure.pure t) := h

/-! ## Updates -/

theorem frame_setR16 (s : State) (r : R16) (v : Word) : Frame { regs := [r] } nowhere s (s.setR16 r v) :=
  { Frame.refl _ _ s with
    regs := fun q hq => by
      have : q ≠ r := fun e => hq (by simp [e])
      simp [State.r16, Gpr.get_set, this] }

theorem frame_setR8 (s : State) (r : R8) (v : Byte) : Frame { regs := [parentOf r] } nowhere s (s.setR8 r v) :=
  frame_setR16 s _ _

theorem frame_setSeg (s : State) (g : SReg) (v : Word) : Frame { segs := [g] } nowhere s (s.setSeg g v) :=
  { Frame.refl _ _ s with
    segs := fun q hq => by
      have : q ≠ g := fun e => hq (by simp [e])
      simp [State.seg, SegRegs.get_set, this] }

theorem frame_setIp (s : State) (v : Word) : Frame { ip := true } nowhere s (s.setIp v) :=
  { Frame.refl _ _ s with ip := fun e => by cases e }

theorem frame_setCsIp (s : State) (c v : Word) : Frame { segs := [.cs], ip := true } nowhere s (s.setCsIp c v) :=
  { Frame.refl _ _ s with
    segs := fun q hq => by cases q <;> first | rfl | simp at hq
    ip := fun e => by cases e }

theorem frame_setFlags (s : State) (x : List FlagName) (f : Flags) (h : ∀ q, q ∉ x → f.get q = s.flags.get q) :
    Frame { flags := x } nowhere s (s.setFlags f) :=
  { Frame.refl _ _ s with flags := h }

theorem frame_setStatus (s : State) (x : StatusFlags) : Frame { flags := statusNames } nowhere s (s.setStatus x) :=
  frame_setFlags s _ _ (fun q hq => by cases q <;> first | rfl | simp [statusNames] at hq)

/-- An x87 update that sets flags, and leaves the condition bits and the control word. -/
theorem frame_setFpu (s : State) (u : Fpu) (hc : u.cond = s.fpu.cond) (hw : u.cw = s.fpu.cw)
    (hx : u.exc = s.fpu.exc.or u.exc) : Frame { fpu := true } nowhere s (s.setFpu u) :=
  { Frame.refl _ _ s with
    fpu := fun e => by cases e
    cond := fun _ => hc
    cw := fun _ => hw
    sticky := fun _ => hx }

/-! ## Memory -/

theorem ends_firstBad (s : State) {sel off bad : Word} {n : Nat} (h : s.mem.firstBad sel off n = some bad) :
    s.mem.inBounds sel bad = false := by
  induction n generalizing off with
  | zero => cases h
  | succ n ih =>
    simp only [Memory.firstBad] at h
    split at h
    · exact ih h
    · rename_i hb
      injection h with h
      subst h
      simpa using hb

theorem reads_memRead (s : State) (sel off : Word) (n : Nat) : Reads s (s.memRead sel off n) := by
  unfold State.memRead Reads
  split
  · rename_i hb
    exact Or.inl (ends_firstBad s hb)
  · trivial

theorem Reads.map {α β : Type} {s : State} {o : Except Fault α} {g : α → β} (h : Reads s o) : Reads s (o.map g) :=
  Ends.map (Ends.mono h (fun _ e => e) (fun _ _ => trivial))

theorem reads_readBits (s : State) (sel off : Word) (n : Nat) : Reads s (s.readBits sel off n) :=
  Reads.map (reads_memRead s sel off n)

theorem reads_read8 (s : State) (sel off : Word) : Reads s (s.read8 sel off) := reads_readBits s sel off 1

theorem reads_read16 (s : State) (sel off : Word) : Reads s (s.read16 sel off) := reads_readBits s sel off 2

theorem reads_readPair (s : State) (sel off : Word) : Reads s (s.readPair sel off) :=
  Ends.bind (reads_read16 s sel off) (fun _ _ => Ends.bind (reads_read16 s sel (off + 2)) (fun _ _ => trivial))

/-- The bytes of a store, as a predicate. -/
def within (w : Option (Word × Word × Nat)) : Word → Word → Prop := fun a b => touches w a b = true

theorem framed_memWrite (s : State) (sel off : Word) (n v : Nat) (hn : n ≤ 65536) :
    Framed {} (within (some (sel, off, n))) s (s.memWrite sel off n v) := by
  unfold State.memWrite Framed
  split
  · rename_i hb
    exact Or.inl (ends_firstBad s hb)
  · rename_i hb
    have hb' := (Memory.firstBad_eq_none _ _ _ _).1 hb
    exact
      { Frame.refl _ nowhere s with
        memSegs := Memory.segs_pokeN _ _ _ _ _
        wf := fun e => Memory.wf_pokeN e v hb'
        bytes := fun e a b hw => Memory.peek_pokeN_other e v hb' (fun k hk he => hw (by
          obtain ⟨rfl, rfl⟩ := he
          have : (off + BitVec.ofNat 16 k - off).toNat < n := (offset_lt_iff off _ n hn).2 ⟨k, hk, rfl⟩
          simpa [within, touches] using this)) }

theorem framed_write8 (s : State) (sel off : Word) (v : Byte) :
    Framed {} (within (some (sel, off, 1))) s (s.write8 sel off v) := framed_memWrite s sel off 1 _ (by decide)

theorem framed_write16 (s : State) (sel off : Word) (v : Word) :
    Framed {} (within (some (sel, off, 2))) s (s.write16 sel off v) := framed_memWrite s sel off 2 _ (by decide)

/-! ## Operands -/

/-- The registers a location's write may change. -/
def locRegs8 : Loc R8 → List R16
  | .reg r => [parentOf r]
  | .mem _ _ => []

def locRegs16 : Loc R16 → List R16
  | .reg r => [r]
  | .mem _ _ => []

/-- The bytes a location's write may change. -/
def locBytes {ρ : Type} (n : Nat) : Loc ρ → Option (Word × Word × Nat)
  | .reg _ => none
  | .mem sel off => some (sel, off, n)

theorem locRegs8_loc (s : State) (d : Rm8) : locRegs8 (s.loc d) = rm8Regs d := by cases d <;> rfl

theorem locRegs16_loc (s : State) (d : Rm16) : locRegs16 (s.loc d) = rm16Regs d := by cases d <;> rfl

theorem locBytes_loc {ρ : Type} (s : State) (d : Rm ρ) (n : Nat) : locBytes n (s.loc d) = s.operandBytes d n := by
  cases d <;> rfl

theorem reads_get8 (s : State) (l : Loc R8) : Reads s (s.get8 l) := by
  cases l with
  | reg r => trivial
  | mem sel off => exact reads_read8 s sel off

theorem reads_get16 (s : State) (l : Loc R16) : Reads s (s.get16 l) := by
  cases l with
  | reg r => trivial
  | mem sel off => exact reads_read16 s sel off

theorem nowhere_le (V : Word → Word → Prop) : ∀ a b, nowhere a b → V a b := fun _ _ h => h.elim

theorem framed_put8 (s : State) (l : Loc R8) (v : Byte) :
    Framed { regs := locRegs8 l } (within (locBytes 1 l)) s (s.put8 l v) := by
  cases l with
  | reg r => exact (frame_setR8 s r v).mono { regs := by simp [locRegs8] } (nowhere_le _)
  | mem sel off => exact framed_write8 s sel off v

theorem framed_put16 (s : State) (l : Loc R16) (v : Word) :
    Framed { regs := locRegs16 l } (within (locBytes 2 l)) s (s.put16 l v) := by
  cases l with
  | reg r => exact (frame_setR16 s r v).mono { regs := by simp [locRegs16] } (nowhere_le _)
  | mem sel off => exact framed_write16 s sel off v

/-! ## Shapes of instructions -/

theorem framed_alu8 (s : State) (op : AluOp) (l : Loc R8) (v : Byte) :
    Framed { regs := if op.writes then locRegs8 l else [], flags := statusNames }
      (within (if op.writes then locBytes 1 l else none)) s (s.alu8 op l v) := by
  refine (reads_get8 s l).bind (fun a => ?_)
  cases hw : op.writes with
  | true =>
    exact ((framed_put8 s l _).mono (by constructor <;> simp) (fun _ _ h => h)).bind (by simp)
      (fun t _ => .pure ((frame_setStatus t _).mono (by constructor <;> simp) (nowhere_le _)))
  | false => exact .pure ((frame_setStatus s _).mono (by constructor <;> simp) (nowhere_le _))

theorem framed_alu16 (s : State) (op : AluOp) (l : Loc R16) (v : Word) :
    Framed { regs := if op.writes then locRegs16 l else [], flags := statusNames }
      (within (if op.writes then locBytes 2 l else none)) s (s.alu16 op l v) := by
  refine (reads_get16 s l).bind (fun a => ?_)
  cases hw : op.writes with
  | true =>
    exact ((framed_put16 s l _).mono (by constructor <;> simp) (fun _ _ h => h)).bind (by simp)
      (fun t _ => .pure ((frame_setStatus t _).mono (by constructor <;> simp) (nowhere_le _)))
  | false => exact .pure ((frame_setStatus s _).mono (by constructor <;> simp) (nowhere_le _))

theorem framed_aluFrom8 (s : State) (op : AluOp) (r : R8) (x : Rm8) :
    Framed { regs := if op.writes then [parentOf r] else [], flags := statusNames } nowhere s (s.aluFrom8 op r x) :=
  (reads_get8 s _).bind (fun v => (framed_alu8 s op (.reg r) v).mono (by constructor <;> simp [locRegs8])
    (by cases op.writes <;> simp [within, locBytes, touches]))

theorem framed_aluFrom16 (s : State) (op : AluOp) (r : R16) (x : Rm16) :
    Framed { regs := if op.writes then [r] else [], flags := statusNames } nowhere s (s.aluFrom16 op r x) :=
  (reads_get16 s _).bind (fun v => (framed_alu16 s op (.reg r) v).mono (by constructor <;> simp [locRegs16])
    (by cases op.writes <;> simp [within, locBytes, touches]))

theorem framed_modify8 (s : State) (l : Loc R8) (f : Byte → Byte) (g : Byte → Flags) (x : List FlagName)
    (h : ∀ a q, q ∉ x → (g a).get q = s.flags.get q) :
    Framed { regs := locRegs8 l, flags := x } (within (locBytes 1 l)) s (s.modify8 l f g) := by
  refine (reads_get8 s l).bind (fun a => ?_)
  cases l with
  | reg r =>
    exact Framed.pure (Frame.trans (c := { regs := locRegs8 (.reg r), flags := x })
      ((frame_setR8 s r (f a)).mono (d := { regs := locRegs8 (.reg r), flags := x }) (by constructor <;> simp [locRegs8])
        (nowhere_le _))
      ((frame_setFlags (s.setR8 r (f a)) x (g a) (h a)).mono (d := { regs := locRegs8 (.reg r), flags := x }) (by constructor <;> simp) (nowhere_le _)))
  | mem sel off =>
    refine Ends.bind (framed_write8 s sel off (f a)) (fun t ht => ?_)
    exact Framed.pure (Frame.trans (c := { regs := locRegs8 (.mem sel off), flags := x })
      (ht.mono (by constructor <;> simp) (fun _ _ e => e))
      ((frame_setFlags t x (g a) (fun q hq => by rw [h a q hq, ht.flags q (by simp)])).mono (by constructor <;> simp)
        (nowhere_le _)))

theorem framed_modify16 (s : State) (l : Loc R16) (f : Word → Word) (g : Word → Flags) (x : List FlagName)
    (h : ∀ a q, q ∉ x → (g a).get q = s.flags.get q) :
    Framed { regs := locRegs16 l, flags := x } (within (locBytes 2 l)) s (s.modify16 l f g) := by
  refine (reads_get16 s l).bind (fun a => ?_)
  cases l with
  | reg r =>
    exact Framed.pure (Frame.trans (c := { regs := locRegs16 (.reg r), flags := x })
      ((frame_setR16 s r (f a)).mono (d := { regs := locRegs16 (.reg r), flags := x }) (by constructor <;> simp [locRegs16])
        (nowhere_le _))
      ((frame_setFlags (s.setR16 r (f a)) x (g a) (h a)).mono (d := { regs := locRegs16 (.reg r), flags := x }) (by constructor <;> simp) (nowhere_le _)))
  | mem sel off =>
    refine Ends.bind (framed_write16 s sel off (f a)) (fun t ht => ?_)
    exact Framed.pure (Frame.trans (c := { regs := locRegs16 (.mem sel off), flags := x })
      (ht.mono (by constructor <;> simp) (fun _ _ e => e))
      ((frame_setFlags t x (g a) (fun q hq => by rw [h a q hq, ht.flags q (by simp)])).mono (by constructor <;> simp)
        (nowhere_le _)))

/-- The flags a shift or rotate may write (42_logic R227 to R233). -/
def shiftNames : ShiftOp → List FlagName
  | .shl | .shr | .sar => statusNames
  | .rol | .ror | .rcl | .rcr => [.CF, .OF]

theorem shift_flags {n : Nat} (op : ShiftOp) (a : BitVec n) (c : Nat) (f : Flags) (q : FlagName)
    (h : q ∉ shiftNames op) : (op.eval a c f).2.get q = f.get q := by
  cases op <;> cases q <;> first | rfl | simp [shiftNames, statusNames] at h

theorem framed_shift8 (s : State) (op : ShiftOp) (d : Rm8) (raw : Byte) :
    Framed { regs := rm8Regs d, flags := shiftNames op } (within (s.operandBytes d 1)) s (s.shift8 op d raw) := by
  rw [← locRegs8_loc s d, ← locBytes_loc s d 1]
  have key := fun r => framed_modify8 s (s.loc d) (fun a => (op.eval a (maskedCount raw) s.flags).1)
    (fun a => (op.eval a (maskedCount raw) s.flags).2) (shiftNames op) r
  have hm : s.shift8 op d raw = if maskedCount raw = 0 then (do let _ ← s.get8 (s.loc d); pure s) else
      s.modify8 (s.loc d) (fun a => (op.eval a (maskedCount raw) s.flags).1)
        (fun a => (op.eval a (maskedCount raw) s.flags).2) := by
    unfold State.shift8 State.modify8
    by_cases h : maskedCount raw = 0
    · simp only [h, if_true]
    · simp only [h, if_false]
  rw [hm]
  split
  · exact (reads_get8 s _).bind (fun _ => .pure (Frame.refl _ _ s))
  · exact key (fun a q hq => shift_flags op a _ s.flags q hq)

theorem framed_shift16 (s : State) (op : ShiftOp) (d : Rm16) (raw : Byte) :
    Framed { regs := rm16Regs d, flags := shiftNames op } (within (s.operandBytes d 2)) s (s.shift16 op d raw) := by
  rw [← locRegs16_loc s d, ← locBytes_loc s d 2]
  have key := fun r => framed_modify16 s (s.loc d) (fun a => (op.eval a (maskedCount raw) s.flags).1)
    (fun a => (op.eval a (maskedCount raw) s.flags).2) (shiftNames op) r
  have hm : s.shift16 op d raw = if maskedCount raw = 0 then (do let _ ← s.get16 (s.loc d); pure s) else
      s.modify16 (s.loc d) (fun a => (op.eval a (maskedCount raw) s.flags).1)
        (fun a => (op.eval a (maskedCount raw) s.flags).2) := by
    unfold State.shift16 State.modify16
    by_cases h : maskedCount raw = 0
    · simp only [h, if_true]
    · simp only [h, if_false]
  rw [hm]
  split
  · exact (reads_get16 s _).bind (fun _ => .pure (Frame.refl _ _ s))
  · exact key (fun a q hq => shift_flags op a _ s.flags q hq)

/-! ## Arithmetic -/

theorem withStatus_get (f : Flags) (x : StatusFlags) (q : FlagName) (h : q ∉ statusNames) :
    (f.withStatus x).get q = f.get q := by
  cases q <;> first | rfl | simp [statusNames] at h

theorem withStatusKeepCF_get (f : Flags) (x : StatusFlags) (q : FlagName) (h : q ∉ [FlagName.PF, .AF, .ZF, .SF, .OF]) :
    (f.withStatusKeepCF x).get q = f.get q := by
  cases q <;> first | rfl | simp at h

theorem framed_inc8 (s : State) (l : Loc R8) : Framed { regs := locRegs8 l, flags := [.PF, .AF, .ZF, .SF, .OF] }
    (within (locBytes 1 l)) s (s.inc8 l) :=
  framed_modify8 s l _ _ _ (fun _ q hq => withStatusKeepCF_get _ _ q hq)

theorem framed_inc16 (s : State) (l : Loc R16) : Framed { regs := locRegs16 l, flags := [.PF, .AF, .ZF, .SF, .OF] }
    (within (locBytes 2 l)) s (s.inc16 l) :=
  framed_modify16 s l _ _ _ (fun _ q hq => withStatusKeepCF_get _ _ q hq)

theorem framed_dec8 (s : State) (l : Loc R8) : Framed { regs := locRegs8 l, flags := [.PF, .AF, .ZF, .SF, .OF] }
    (within (locBytes 1 l)) s (s.dec8 l) :=
  framed_modify8 s l _ _ _ (fun _ q hq => withStatusKeepCF_get _ _ q hq)

theorem framed_dec16 (s : State) (l : Loc R16) : Framed { regs := locRegs16 l, flags := [.PF, .AF, .ZF, .SF, .OF] }
    (within (locBytes 2 l)) s (s.dec16 l) :=
  framed_modify16 s l _ _ _ (fun _ q hq => withStatusKeepCF_get _ _ q hq)

theorem framed_neg8 (s : State) (l : Loc R8) : Framed { regs := locRegs8 l, flags := statusNames }
    (within (locBytes 1 l)) s (s.neg8 l) :=
  framed_modify8 s l _ _ _ (fun _ q hq => withStatus_get _ _ q hq)

theorem framed_neg16 (s : State) (l : Loc R16) : Framed { regs := locRegs16 l, flags := statusNames }
    (within (locBytes 2 l)) s (s.neg16 l) :=
  framed_modify16 s l _ _ _ (fun _ q hq => withStatus_get _ _ q hq)

theorem framed_not8 (s : State) (l : Loc R8) : Framed { regs := locRegs8 l } (within (locBytes 1 l)) s (s.not8 l) :=
  framed_modify8 s l _ _ _ (fun _ _ _ => rfl)

theorem framed_not16 (s : State) (l : Loc R16) : Framed { regs := locRegs16 l } (within (locBytes 2 l)) s (s.not16 l) :=
  framed_modify16 s l _ _ _ (fun _ _ _ => rfl)

/-- A register written, then the status flags. -/
theorem frame_result (s : State) (r : R16) (v : Word) (x : StatusFlags) :
    Frame { regs := [r], flags := statusNames } nowhere s ((s.setR16 r v).setStatus x) :=
  ((frame_setR16 s r v).mono (by constructor <;> simp) (nowhere_le _)).trans
    ((frame_setStatus _ x).mono (by constructor <;> simp) (nowhere_le _))

theorem frame_setDxAx (s : State) (v : BitVec 32) (x : StatusFlags) :
    Frame { regs := [.ax, .dx], flags := statusNames } nowhere s ((s.setDxAx v).setStatus x) :=
  (((frame_setR16 s .ax _).mono (by constructor <;> simp) (nowhere_le _)).trans
    ((frame_setR16 _ .dx _).mono (by constructor <;> simp) (nowhere_le _))).trans
    ((frame_setStatus _ x).mono (by constructor <;> simp) (nowhere_le _))

theorem framed_mul8 (s : State) (l : Loc R8) : Framed { regs := [.ax], flags := statusNames } nowhere s (s.mul8 l) :=
  (reads_get8 s l).bind (fun _ => .pure (frame_result s .ax _ _))

theorem framed_mul16 (s : State) (l : Loc R16) :
    Framed { regs := [.ax, .dx], flags := statusNames } nowhere s (s.mul16 l) :=
  (reads_get16 s l).bind (fun _ => .pure (frame_setDxAx s _ _))

theorem framed_imul8 (s : State) (l : Loc R8) : Framed { regs := [.ax], flags := statusNames } nowhere s (s.imul8 l) :=
  (reads_get8 s l).bind (fun _ => .pure (frame_result s .ax _ _))

theorem framed_imul16 (s : State) (l : Loc R16) :
    Framed { regs := [.ax, .dx], flags := statusNames } nowhere s (s.imul16 l) :=
  (reads_get16 s l).bind (fun _ => .pure (frame_setDxAx s _ _))

theorem framed_imul3 (s : State) (r : R16) (l : Loc R16) (imm : Word) :
    Framed { regs := [r], flags := statusNames } nowhere s (s.imul3 r l imm) :=
  (reads_get16 s l).bind (fun _ => .pure (frame_result s r _ _))

/-! ## Moves -/

theorem framed_move8 (s : State) (d x : Loc R8) :
    Framed { regs := locRegs8 d } (within (locBytes 1 d)) s (s.move8 d x) :=
  (reads_get8 s x).bind (fun v => framed_put8 s d v)

theorem framed_move16 (s : State) (d x : Loc R16) :
    Framed { regs := locRegs16 d } (within (locBytes 2 d)) s (s.move16 d x) :=
  (reads_get16 s x).bind (fun v => framed_put16 s d v)

theorem framed_loadSeg (s : State) (g : SReg) (x : Loc R16) : Framed { segs := [g] } nowhere s (s.loadSeg g x) :=
  (reads_get16 s x).bind (fun v => .pure (frame_setSeg s g v))

theorem framed_xchg8 (s : State) (r : R8) (y : Loc R8) :
    Framed { regs := parentOf r :: locRegs8 y } (within (locBytes 1 y)) s (s.xchg8 (.reg r) y) :=
  (reads_get8 s (.reg r)).bind (fun a => (reads_get8 s y).bind (fun b =>
    ((framed_put8 s (.reg r) b).mono (by constructor <;> simp [locRegs8]) (by simp [within, locBytes, touches])).bind
      (by simp) (fun t _ => (framed_put8 t y a).mono (by constructor <;> simp +contextual) (fun _ _ h => h))))

theorem framed_xchg16 (s : State) (r : R16) (y : Loc R16) :
    Framed { regs := r :: locRegs16 y } (within (locBytes 2 y)) s (s.xchg16 (.reg r) y) :=
  (reads_get16 s (.reg r)).bind (fun a => (reads_get16 s y).bind (fun b =>
    ((framed_put16 s (.reg r) b).mono (by constructor <;> simp [locRegs16]) (by simp [within, locBytes, touches])).bind
      (by simp) (fun t _ => (framed_put16 t y a).mono (by constructor <;> simp +contextual) (fun _ _ h => h))))

theorem framed_loadFar (s : State) (r : R16) (g : SReg) (m : Mem) :
    Framed { regs := [r], segs := [g] } nowhere s (s.loadFar r g m) :=
  (reads_readPair s _ _).bind (fun _ => .pure (((frame_setR16 s r _).mono (by constructor <;> simp) (nowhere_le _)).trans
    ((frame_setSeg _ g _).mono (by constructor <;> simp) (nowhere_le _))))

theorem framed_xlatFrom (s : State) (g : SReg) : Framed { regs := [.ax] } nowhere s (s.xlatFrom g) :=
  (reads_read8 s _ _).bind (fun _ => .pure (frame_setR8 s .al _))

/-! ## The stack -/

/-- A push moves `SP` down, and stores there (20_memory R100, R102). -/
theorem ends_pushN (s : State) (n v : Nat) (h0 : 0 < n) (hn : n ≤ 2) :
    Ends (Misplaced s) (fun t => Frame { regs := [.sp] } (within (some (s.sreg.ss, s.gpr.sp - BitVec.ofNat 16 n, n))) s t
      ∧ t.gpr.sp = s.gpr.sp - BitVec.ofNat 16 n ∧ n ≤ s.gpr.sp.toNat) (s.pushN n v) := by
  unfold State.pushN
  split
  · rename_i hlt
    refine Or.inr ⟨rfl, Or.inr ?_⟩
    have := s.gpr.sp.isLt
    rw [BitVec.toNat_sub, BitVec.toNat_ofNat]
    omega
  · rename_i hlt
    refine Ends.map (Ends.mono (framed_memWrite s _ _ n v (by omega)) (fun _ e => e) (fun t ht => ?_))
    exact ⟨(ht.mono (by constructor <;> simp) (fun _ _ e => e)).trans
      ((frame_setR16 t .sp _).mono (by constructor <;> simp) (nowhere_le _)), rfl, by omega⟩

theorem ends_push16 (s : State) (v : Word) :
    Ends (Misplaced s) (fun t => Frame { regs := [.sp] } (within (some (s.sreg.ss, s.gpr.sp - 2, 2))) s t
      ∧ t.gpr.sp = s.gpr.sp - 2 ∧ 2 ≤ s.gpr.sp.toNat) (s.push16 v) :=
  ends_pushN s 2 v.toNat (by decide) (by decide)

theorem framed_push16 (s : State) (v : Word) :
    Framed { regs := [.sp] } (within (some (s.sreg.ss, s.gpr.sp - 2, 2))) s (s.push16 v) :=
  Ends.mono (ends_push16 s v) (fun _ e => e) (fun _ h => h.1)

/-- A pop moves `SP` up (20_memory R101). -/
theorem ends_pop16 (s : State) : Ends (Misplaced s) (fun p => p.2 = s.setR16 .sp (s.gpr.sp + 2)) s.pop16 := by
  unfold State.pop16 State.popN
  refine Ends.map ?_
  cases hs : s.mem.segSize s.sreg.ss with
  | none => exact Or.inl (by simp [Memory.inBounds, hs])
  | some size =>
    by_cases hlt : size < s.gpr.sp.toNat + 2
    · simp only [if_pos hlt]
      refine Or.inr ⟨rfl, ?_⟩
      by_cases hw : 0xFFFE ≤ s.gpr.sp.toNat
      · exact Or.inr hw
      · left
        have e1 : (1 : Word).toNat = 1 := rfl
        simp only [Memory.inBounds, hs, decide_eq_false_iff_not, BitVec.toNat_add, e1]
        omega
    · simp only [if_neg hlt]
      exact Ends.map (Ends.mono (reads_memRead s _ _ 2) (fun _ e => e) (fun _ _ => rfl))

/-- A pop, then what is done with the word. -/
theorem framed_pop {c : Scope} {W : Word → Word → Prop} {s : State} {k : Word × State → Except Fault State}
    (hc : .sp ∈ c.regs) (hss : SReg.ss ∉ c.segs)
    (hk : ∀ v, Framed c W (s.setR16 .sp (s.gpr.sp + 2)) (k (v, s.setR16 .sp (s.gpr.sp + 2)))) :
    Framed c W s (s.pop16 >>= k) := by
  refine Ends.bind (ends_pop16 s) (fun p hp => ?_)
  obtain ⟨v, t⟩ := p
  subst hp
  have hf : Frame c W s (s.setR16 .sp (s.gpr.sp + 2)) :=
    (frame_setR16 s .sp _).mono (by constructor <;> simp [hc]) (nowhere_le _)
  exact (hk v).after hf hss

/-- A pop that is the last to touch memory: `SS` may be written after it. -/
theorem framed_popLast {c : Scope} {W : Word → Word → Prop} {s : State} {k : Word × State → State}
    (hk : ∀ v, Frame c W s (k (v, s.setR16 .sp (s.gpr.sp + 2)))) :
    Framed c W s (s.pop16 >>= fun p => pure (k p)) := by
  refine Ends.bind (ends_pop16 s) (fun p hp => ?_)
  obtain ⟨v, t⟩ := p
  subst hp
  exact hk v

theorem framed_pushOperand (s : State) (l : Loc R16) :
    Framed { regs := [.sp] } (within (some (s.sreg.ss, s.gpr.sp - 2, 2))) s (s.pushOperand l) :=
  (reads_get16 s l).bind (fun v => framed_push16 s v)

theorem framed_popOperand (s : State) (l : Loc R16) :
    Framed { regs := .sp :: locRegs16 l } (within (locBytes 2 l)) s (s.popOperand l) :=
  framed_pop (by simp) (by simp) (fun v => (framed_put16 _ l v).mono (by constructor <;> simp +contextual) (fun _ _ e => e))

theorem framed_popSeg (s : State) (g : SReg) : Framed { regs := [.sp], segs := [g] } nowhere s (s.popSeg g) :=
  framed_popLast (fun _ => ((frame_setR16 s .sp _).mono (by constructor <;> simp) (nowhere_le _)).trans
    ((frame_setSeg _ g _).mono (by constructor <;> simp) (nowhere_le _)))

theorem framed_popFlags (s : State) : Framed { regs := [.sp], flags := flagNames } nowhere s s.popFlags :=
  framed_popLast (fun _ => ((frame_setR16 s .sp _).mono (by constructor <;> simp) (nowhere_le _)).trans
    ((frame_setFlags _ flagNames _ (fun q hq => by cases q <;> simp [flagNames] at hq)).mono (by constructor <;> simp)
      (nowhere_le _)))

theorem framed_popReg (s : State) (r : R16) : Framed { regs := [.sp, r] } nowhere s (s.popReg r) :=
  framed_popLast (fun _ => ((frame_setR16 s .sp _).mono (by constructor <;> simp) (nowhere_le _)).trans
    ((frame_setR16 _ r _).mono (by constructor <;> simp) (nowhere_le _)))

/-- Every general register. -/
def allRegs : List R16 := [.ax, .cx, .dx, .bx, .sp, .bp, .si, .di]

theorem mem_allRegs (r : R16) : r ∈ allRegs := by cases r <;> simp [allRegs]

theorem framed_popAll (s : State) : Framed { regs := allRegs } nowhere s s.popAll := by
  have pr : ∀ (t : State) (r : R16), Framed { regs := allRegs } nowhere t (t.popReg r) := fun t r =>
    (framed_popReg t r).mono ⟨fun _ _ => mem_allRegs _, by simp, by simp, by simp, by simp, by simp, by simp, by simp, by simp⟩
      (fun _ _ e => e)
  unfold State.popAll
  refine (pr s .di).bind (by simp) (fun a _ => (pr a .si).bind (by simp) (fun b _ => (pr b .bp).bind (by simp) (fun c _ => ?_)))
  have hc : Frame { regs := allRegs } nowhere c (c.setR16 .sp (c.gpr.sp + 2)) :=
    (frame_setR16 c .sp _).mono (by constructor <;> simp [mem_allRegs]) (fun _ _ e => e)
  exact ((pr _ .bx).bind (by simp) (fun d _ => (pr d .dx).bind (by simp) (fun e _ => (pr e .cx).bind (by simp)
    (fun f _ => pr f .ax)))).after hc (by simp)

/-! ### Several pushes -/

theorem sub_sub_ofNat (x : Word) (m n : Nat) :
    x - BitVec.ofNat 16 m - BitVec.ofNat 16 n = x - BitVec.ofNat 16 (m + n) := by
  rw [BitVec.ofNat_add]; exact BitVec.sub_sub x _ _

/-- The bytes of a run end where a longer run ends. -/
theorem within_tail {sel x a b : Word} {m n : Nat} (_ : n ≤ 65535) (hm : m ≤ n)
    (h : within (some (sel, x - BitVec.ofNat 16 m, m)) a b) : within (some (sel, x - BitVec.ofNat 16 n, n)) a b := by
  simp only [within, touches, Bool.and_eq_true, decide_eq_true_eq] at *
  refine ⟨h.1, ?_⟩
  have h2 := h.2
  have hb := b.isLt
  have hx := x.isLt
  simp only [BitVec.toNat_sub, BitVec.toNat_ofNat] at *
  omega

/-- The bytes of a run begin where a longer run begins. -/
theorem within_head {sel x a b : Word} {m n : Nat} (hm : m ≤ n)
    (h : within (some (sel, x, m)) a b) : within (some (sel, x, n)) a b := by
  simp only [within, touches, Bool.and_eq_true, decide_eq_true_eq] at *
  exact ⟨h.1, by omega⟩

/-- What `n` pushed words can change: `SP` and other registers, and the bytes below the old `SP`. -/
def below (s : State) (n : Nat) : Word → Word → Prop :=
  within (some (s.sreg.ss, s.gpr.sp - BitVec.ofNat 16 (2 * n), 2 * n))

/-- A push, then what pushes `n` more words. -/
theorem framed_pushThen {c : Scope} {s : State} {n : Nat} {v : Word} {k : State → Except Fault State}
    (hn : 2 * (n + 1) ≤ 65535) (hc : .sp ∈ c.regs) (hss : SReg.ss ∉ c.segs)
    (hk : ∀ t, Framed c (below t n) t (k t)) :
    Framed c (below s (n + 1)) s (s.push16 v >>= k) := by
  refine Ends.bind (ends_push16 s v) (fun t ht => ?_)
  obtain ⟨hf, hsp, hle⟩ := ht
  have hf' : Frame c (below s (n + 1)) s t := hf.mono (by constructor <;> simp [hc]) (fun a b h => by
    exact within_tail (m := 2) hn (by omega) h)
  have hs : t.sreg.ss = s.sreg.ss := hf.segs .ss (by simp)
  refine ((hk t).mono (Scope.Le.refl c) (fun a b h => ?_)).after hf' hss
  unfold below at *
  rw [hs, hsp, show (2 : Word) = BitVec.ofNat 16 2 from rfl, sub_sub_ofNat, Nat.add_comm 2, ← Nat.mul_succ] at h
  exact within_head (by omega) h

theorem framed_pushList (s : State) (vs : List Word) (hn : 2 * vs.length ≤ 65535) :
    Framed { regs := [.sp] } (below s vs.length) s (s.pushList vs) := by
  induction vs generalizing s with
  | nil => exact .ok (Frame.refl _ _ s)
  | cons v vs ih => exact framed_pushThen hn (by simp) (by simp) (fun t => ih t (by simp at hn; omega))

theorem framed_pushAll (s : State) : Framed { regs := [.sp] } (below s 8) s s.pushAll :=
  framed_pushList s [s.gpr.ax, s.gpr.cx, s.gpr.dx, s.gpr.bx, s.gpr.sp, s.gpr.bp, s.gpr.si, s.gpr.di] (by simp)

theorem framed_copyThen {s : State} {n j : Nat} {k : State → Except Fault State} (hn : 2 * (j + n) ≤ 65535)
    (hk : ∀ t, Framed { regs := [.sp, .bp] } (below t n) t (k t)) :
    Framed { regs := [.sp, .bp] } (below s (j + n)) s (s.copyFrames j >>= k) := by
  induction j generalizing s with
  | zero => rw [Nat.zero_add]; exact hk s
  | succ j ih =>
    have hf : Frame { regs := [.bp] } nowhere s (s.setR16 .bp (s.gpr.bp - 2)) := frame_setR16 s .bp _
    have key : ∀ u : State, Framed { regs := [.sp, .bp] } (below u (j + n + 1)) u
        (u.read16 u.sreg.ss u.gpr.bp >>= fun v => u.push16 v >>= fun w => w.copyFrames j >>= k) := fun u =>
      (reads_read16 u u.sreg.ss u.gpr.bp).bind (fun v => framed_pushThen (s := u) (v := v) (by omega) (by simp) (by simp)
        (fun t => ih (s := t) (by omega)))
    have e : (s.copyFrames (j + 1) >>= k) = ((s.setR16 .bp (s.gpr.bp - 2)).read16 (s.setR16 .bp (s.gpr.bp - 2)).sreg.ss
        (s.setR16 .bp (s.gpr.bp - 2)).gpr.bp >>= fun v => (s.setR16 .bp (s.gpr.bp - 2)).push16 v >>= fun w =>
          w.copyFrames j >>= k) := by
      simp only [State.copyFrames, bind_assoc]
    rw [e, show j + 1 + n = j + n + 1 by omega]
    exact (key (s.setR16 .bp (s.gpr.bp - 2))).after (hf.mono (by constructor <;> simp) (nowhere_le _)) (by simp)

theorem framed_enterFrame (s : State) (size : Word) (imm : Byte) :
    Framed { regs := [.sp, .bp] } (within (s.enterBytes imm)) s (s.enterFrame size imm) := by
  have hl : (imm &&& 0x1F).toNat ≤ 31 := by
    rw [BitVec.toNat_and]; exact Nat.and_le_right
  have close : ∀ (b : State) (v w : Word) (W : Word → Word → Prop),
      Frame { regs := [.sp, .bp] } W b ((b.setR16 .bp v).setR16 .sp w) := fun b v w W =>
    ((frame_setR16 b .bp v).mono (by constructor <;> simp) (nowhere_le _)).trans
      ((frame_setR16 _ .sp w).mono (by constructor <;> simp) (nowhere_le _))
  have hw : within (s.enterBytes imm) = below s ((imm &&& 0x1F).toNat + 1) := by
    unfold State.enterBytes below
    rw [show 2 + 2 * (imm &&& 0x1F).toNat = 2 * ((imm &&& 0x1F).toNat + 1) by omega]
  rw [hw]
  unfold State.enterFrame
  refine framed_pushThen (by omega) (by simp) (by simp) (fun t => ?_)
  by_cases h0 : (imm &&& 0x1F).toNat = 0
  · simp only [h0, if_true]
    exact .pure (close t _ _ _)
  · simp only [if_neg h0]
    have e := framed_copyThen (s := t) (n := 1) (j := (imm &&& 0x1F).toNat - 1)
      (k := fun c => c.push16 t.gpr.sp >>= fun b => pure ((b.setR16 .bp t.gpr.sp).setR16 .sp ((b.setR16 .bp t.gpr.sp).gpr.sp - size)))
      (by omega) (fun c => framed_pushThen (n := 0) (by omega) (by simp) (by simp) (fun b => .pure (close b _ _ _)))
    rw [show (imm &&& 0x1F).toNat - 1 + 1 = (imm &&& 0x1F).toNat by omega] at e
    simpa only [bind_assoc] using e

theorem framed_leaveFrame (s : State) : Framed { regs := [.sp, .bp] } nowhere s s.leaveFrame := by
  have hf : Frame { regs := [.sp, .bp] } nowhere s (s.setR16 .sp s.gpr.bp) :=
    (frame_setR16 s .sp _).mono (by constructor <;> simp) (nowhere_le _)
  exact (framed_popReg (s.setR16 .sp s.gpr.bp) .bp).after hf (by simp)

/-! ## Control transfer -/

theorem frame_jumpRel (s : State) (v : Word) : Frame { ip := true } nowhere s (s.jumpRel v) := frame_setIp s _

theorem frame_jumpIf (s : State) (taken : Bool) (rel : Byte) : Frame { ip := true } nowhere s (s.jumpIf taken rel) := by
  unfold State.jumpIf
  split
  · exact frame_jumpRel s _
  · exact Frame.refl _ _ s

theorem framed_jumpTo (s : State) (l : Loc R16) : Framed { ip := true } nowhere s (s.jumpTo l) :=
  (reads_get16 s l).bind (fun _ => .pure (frame_setIp s _))

theorem framed_jumpFar (s : State) (m : Mem) : Framed { segs := [.cs], ip := true } nowhere s (s.jumpFar m) :=
  (reads_readPair s _ _).bind (fun _ => .pure (frame_setCsIp s _ _))

theorem frame_loopIf (s : State) (also : Bool) (rel : Byte) :
    Frame { regs := [.cx], ip := true } nowhere s (s.loopIf also rel) :=
  ((frame_setR16 s .cx _).mono (by constructor <;> simp) (nowhere_le _)).trans
    ((frame_jumpIf _ _ rel).mono (by constructor <;> simp) (nowhere_le _))

theorem framed_callNear (s : State) (v : Word) :
    Framed { regs := [.sp], ip := true } (within (some (s.sreg.ss, s.gpr.sp - 2, 2))) s (s.callNear v) :=
  ((framed_push16 s s.ip).mono (by constructor <;> simp) (fun _ _ e => e)).bind (by simp)
    (fun t _ => .pure ((frame_setIp t v).mono (by constructor <;> simp) (nowhere_le _)))

theorem framed_callTo (s : State) (l : Loc R16) :
    Framed { regs := [.sp], ip := true } (within (some (s.sreg.ss, s.gpr.sp - 2, 2))) s (s.callTo l) :=
  (reads_get16 s l).bind (fun v => framed_callNear s v)

theorem frame_releaseArgs (s : State) (v : Word) : Frame { regs := [.sp] } nowhere s (s.releaseArgs v) :=
  frame_setR16 s .sp _

theorem framed_retNear (s : State) (v : Word) : Framed { regs := [.sp], ip := true } nowhere s (s.retNear v) :=
  framed_popLast (fun _ => (((frame_setR16 s .sp _).mono (by constructor <;> simp) (nowhere_le _)).trans
    ((frame_setIp _ _).mono (by constructor <;> simp) (nowhere_le _))).trans
    ((frame_releaseArgs _ v).mono (by constructor <;> simp) (nowhere_le _)))

theorem framed_retFar (s : State) (v : Word) :
    Framed { regs := [.sp], segs := [.cs], ip := true } nowhere s (s.retFar v) :=
  framed_pop (by simp) (by simp) (fun _ => framed_popLast (fun _ =>
    (((frame_setR16 _ .sp _).mono (by constructor <;> simp) (nowhere_le _)).trans
    ((frame_setCsIp _ _ _).mono (by constructor <;> simp) (nowhere_le _))).trans
    ((frame_releaseArgs _ v).mono (by constructor <;> simp) (nowhere_le _))))

theorem framed_interruptReturn (s : State) :
    Framed { regs := [.sp], flags := flagNames, segs := [.cs], ip := true } nowhere s s.interruptReturn :=
  framed_pop (by simp) (by simp) (fun _ => framed_pop (by simp) (by simp) (fun _ => framed_popLast (fun _ =>
    (((frame_setR16 _ .sp _).mono (by constructor <;> simp) (nowhere_le _)).trans
    ((frame_setCsIp _ _ _).mono (by constructor <;> simp) (nowhere_le _))).trans
    ((frame_setFlags _ flagNames _ (fun q hq => by cases q <;> simp [flagNames] at hq)).mono (by constructor <;> simp)
      (nowhere_le _)))))

/-! ## x87 -/

theorem ExcFlags.or_idem (x y : ExcFlags) : x.or (x.or y) = x.or y := by rw [← ExcFlags.or_assoc, ExcFlags.or_self]

/-- What a check that passes says, and what it faults with. -/
theorem ends_fpuCheck (s : State) (reads : List StIdx) (pushes : Bool) :
    s.fpuCheck reads pushes = .ok () ∧ s.fpuReady reads pushes = true
      ∨ s.fpuCheck reads pushes = .error .fpuStack ∧ s.fpuReady reads pushes = false := by
  unfold State.fpuCheck State.fpuReady
  cases s.params.ringPolicy with
  | wrap => left; simp
  | fault =>
    simp only [reduceCtorEq, decide_false, Bool.false_or]
    split
    · rename_i h; left; exact ⟨rfl, h⟩
    · rename_i h; right; exact ⟨rfl, by simpa using h⟩

@[simp] theorem Fpu.popN_cond (u : Fpu) (k : Nat) : (u.popN k).cond = u.cond := by
  induction k generalizing u with
  | zero => rfl
  | succ k ih => exact ih u.pop

@[simp] theorem Fpu.popN_cw (u : Fpu) (k : Nat) : (u.popN k).cw = u.cw := by
  induction k generalizing u with
  | zero => rfl
  | succ k ih => exact ih u.pop

@[simp] theorem Fpu.popN_exc (u : Fpu) (k : Nat) : (u.popN k).exc = u.exc := by
  induction k generalizing u with
  | zero => rfl
  | succ k ih => exact ih u.pop

/-- An x87 operation: it ends in a frame, or in an addressing fault, or fails the check. -/
def FpFramed (c : Scope) (W : Word → Word → Prop) (s : State) (reads : List StIdx) (pushes : Bool)
    (o : Except Fault State) : Prop :=
  (s.fpuReady reads pushes = true ∧ Framed c W s o) ∨ (s.fpuReady reads pushes = false ∧ o = .error .fpuStack)

theorem fpFramed_check {c : Scope} {W : Word → Word → Prop} {s : State} {reads : List StIdx} {pushes : Bool}
    {k : Unit → Except Fault State} (h : Framed c W s (k ())) :
    FpFramed c W s reads pushes (s.fpuCheck reads pushes >>= k) := by
  rcases ends_fpuCheck s reads pushes with ⟨e, r⟩ | ⟨e, r⟩
  · left; rw [e]; exact ⟨r, h⟩
  · right; rw [e]; exact ⟨r, rfl⟩

theorem reads_fpSource (s : State) (src : FpSrc) : Reads s (s.fpSource src) := by
  cases src with
  | real f m => exact (reads_memRead s _ _ _).map
  | int k m => exact (reads_memRead s _ _ _).map
  | st i => trivial

theorem fpFramed_fpArith (s : State) (op : FpOp) (rev : Bool) (src : FpSrc) :
    FpFramed { fpu := true } nowhere s (0 :: src.slots) false (s.fpArith op rev src) :=
  fpFramed_check ((reads_fpSource s src).bind (fun _ => .pure (frame_setFpu s _ rfl rfl (ExcFlags.or_idem _ _).symm)))

theorem fpFramed_fpArithTo (s : State) (op : FpOp) (rev : Bool) (i : StIdx) (k : Nat) :
    FpFramed { fpu := true } nowhere s [i, 0] false (s.fpArithTo op rev i k) :=
  fpFramed_check (.pure (frame_setFpu s _ (Fpu.popN_cond _ _) (Fpu.popN_cw _ _)
    (by rw [Fpu.popN_exc]; exact (ExcFlags.or_idem _ _).symm)))

theorem frame_fpCompareWith (s : State) (b : Operand) (k : Nat) :
    Frame { fpu := true, cond := true } nowhere s (s.fpCompareWith b k) :=
  { Frame.refl _ _ s with
    fpu := fun e => by cases e
    cond := fun e => by cases e
    cw := fun _ => Fpu.popN_cw _ _
    sticky := fun _ => by
      rw [State.fpCompareWith, State.setFpu_fpu, Fpu.popN_exc]
      exact (ExcFlags.or_idem _ _).symm }

theorem fpFramed_fpCompare (s : State) (src : FpSrc) (k : Nat) :
    FpFramed { fpu := true, cond := true } nowhere s (0 :: src.slots) false (s.fpCompare src k) :=
  fpFramed_check ((reads_fpSource s src).bind (fun b => .pure (frame_fpCompareWith s b k)))

theorem fpFramed_fpTest (s : State) : FpFramed { fpu := true, cond := true } nowhere s [0] false s.fpTest :=
  fpFramed_check (.pure (frame_fpCompareWith s _ 0))

theorem fpFramed_fpLoad (s : State) (src : FpSrc) :
    FpFramed { fpu := true } nowhere s src.slots true (s.fpLoad src) :=
  fpFramed_check ((reads_fpSource s src).bind (fun _ => .pure (frame_setFpu s _ rfl rfl (ExcFlags.or_idem _ _).symm)))

theorem frame_push (s : State) (v : F80) : Frame { fpu := true } nowhere s (s.setFpu (s.fpu.push v)) :=
  frame_setFpu s _ rfl rfl (ExcFlags.or_self _).symm

theorem fpFramed_fpPush (s : State) (reads : List StIdx) (v : F80) :
    FpFramed { fpu := true } nowhere s reads true (s.fpPush reads v) :=
  fpFramed_check (.pure (frame_push s v))

theorem fpFramed_fpLoad80 (s : State) (m : Mem) : FpFramed { fpu := true } nowhere s [] true (s.fpLoad80 m) :=
  fpFramed_check ((reads_readBits s _ _ _).bind (fun v => .pure (frame_push s v)))

theorem fpFramed_fpStore (s : State) (m : Mem) (n : Nat) (r : Nat × ExcFlags) (k : Nat) (hn : n ≤ 65536) :
    FpFramed { fpu := true } (within (some (s.sel m, s.off m, n))) s [0] false (s.fpStore m n r k) :=
  fpFramed_check (((framed_memWrite s _ _ n r.1 hn).mono (by constructor <;> simp) (fun _ _ e => e)).bind (by simp)
    (fun t _ => .pure ((frame_setFpu t ((t.fpu.raise r.2).popN k) (Fpu.popN_cond _ _) (Fpu.popN_cw _ _)
      (by rw [Fpu.popN_exc]; exact (ExcFlags.or_idem _ _).symm)).mono (Scope.Le.refl _) (nowhere_le _))))

theorem fpFramed_fpStoreReal (s : State) (f : Fmt) (m : Mem) (k : Nat) :
    FpFramed { fpu := true } (within (some (s.sel m, s.off m, f.bytes))) s [0] false (s.fpStoreReal f m k) :=
  fpFramed_fpStore s m _ _ k (by cases f <;> decide)

theorem fpFramed_fpStoreInt (s : State) (j : Nat) (m : Mem) (k : Nat) (hj : j ≤ 64) :
    FpFramed { fpu := true } (within (some (s.sel m, s.off m, j / 8))) s [0] false (s.fpStoreInt j m k) :=
  fpFramed_fpStore s m _ _ k (by omega)

theorem fpFramed_fpStoreSt (s : State) (i : StIdx) (k : Nat) :
    FpFramed { fpu := true } nowhere s [0] false (s.fpStoreSt i k) :=
  fpFramed_check (.pure (frame_setFpu s _ (Fpu.popN_cond _ _) (Fpu.popN_cw _ _)
    (by rw [Fpu.popN_exc]; exact (ExcFlags.or_self _).symm)))

theorem fpFramed_fpUnary (s : State) (f : F80 → F80 × ExcFlags) :
    FpFramed { fpu := true } nowhere s [0] false (s.fpUnary f) :=
  fpFramed_check (.pure (frame_setFpu s _ rfl rfl (ExcFlags.or_idem _ _).symm))

theorem fpFramed_fpExchange (s : State) (i : StIdx) :
    FpFramed { fpu := true } nowhere s [0, i] false (s.fpExchange i) :=
  fpFramed_check (.pure (frame_setFpu s _ rfl rfl (ExcFlags.or_self _).symm))

theorem framed_fpLoadControl (s : State) (m : Mem) :
    Framed { fpu := true, cw := true } nowhere s (s.fpLoadControl m) :=
  (reads_read16 s _ _).bind (fun _ => .pure
    { Frame.refl _ _ s with
      fpu := fun e => by cases e
      cw := fun e => by cases e })

/-! ## Strings -/

/-- What the string instructions move: `SI`, `DI`. -/
theorem frame_stepSi (s : State) (w : Nat) : Frame { regs := [.si] } nowhere s (s.stepSi w) := frame_setR16 s .si _

theorem frame_stepDi (s : State) (w : Nat) : Frame { regs := [.di] } nowhere s (s.stepDi w) := frame_setR16 s .di _

/-- One iteration: its frame, and where `DI` goes. -/
def Iterates (c : Scope) (w : Nat) (stores : Bool) (s : State) (o : Except Fault State) : Prop :=
  Ends (Misplaced s) (fun t => Frame c (within (if stores then some (s.sreg.es, s.gpr.di, w) else none)) s t
    ∧ (stores = true → t.gpr.di = s.gpr.di + s.delta w)) o

theorem iterates_movs (s : State) (w : Nat) (g : SReg) (hw : w ≤ 65536) :
    Iterates { regs := [.si, .di] } w true s (s.movsIter w g) :=
  Ends.bind (reads_memRead s _ _ _) (fun v _ => Ends.bind (framed_memWrite s s.sreg.es s.gpr.di w v hw) (fun t ht =>
    ⟨((ht.mono (by constructor <;> simp) (fun _ _ e => e)).trans
      ((frame_stepSi t w).mono (by constructor <;> simp) (nowhere_le _))).trans
      ((frame_stepDi _ w).mono (by constructor <;> simp) (nowhere_le _)), fun _ => by
      have h1 : t.gpr.di = s.gpr.di := ht.regs .di (by simp)
      have h2 : t.flags.DF = s.flags.DF := ht.flags .DF (by simp)
      show t.gpr.di + t.delta w = _
      rw [h1, State.delta, State.delta, h2]⟩))

theorem iterates_stos (s : State) (w : Nat) (hw : w ≤ 65536) :
    Iterates { regs := [.di] } w true s (s.stosIter w) :=
  Ends.bind (framed_memWrite s s.sreg.es s.gpr.di w _ hw) (fun t ht =>
    ⟨(ht.mono (by constructor <;> simp) (fun _ _ e => e)).trans
      ((frame_stepDi t w).mono (by constructor <;> simp) (nowhere_le _)), fun _ => by
      have h1 : t.gpr.di = s.gpr.di := ht.regs .di (by simp)
      have h2 : t.flags.DF = s.flags.DF := ht.flags .DF (by simp)
      show t.gpr.di + t.delta w = _
      rw [h1, State.delta, State.delta, h2]⟩)

theorem iterates_cmps (s : State) (w : Nat) (g : SReg) :
    Iterates { regs := [.si, .di], flags := statusNames } w false s (s.cmpsIter w g) :=
  Ends.bind (reads_readBits s _ _ _) (fun _ _ => Ends.bind (reads_readBits s _ _ _) (fun _ _ =>
    ⟨(((frame_setStatus s _).mono (by constructor <;> simp) (nowhere_le _)).trans
      ((frame_stepSi _ w).mono (by constructor <;> simp) (nowhere_le _))).trans
      ((frame_stepDi _ w).mono (by constructor <;> simp) (nowhere_le _)), by simp⟩))

theorem iterates_scas (s : State) (w : Nat) :
    Iterates { regs := [.di], flags := statusNames } w false s (s.scasIter w) :=
  Ends.bind (reads_readBits s _ _ _) (fun _ _ =>
    ⟨((frame_setStatus s _).mono (by constructor <;> simp) (nowhere_le _)).trans
      ((frame_stepDi _ w).mono (by constructor <;> simp) (nowhere_le _)), by simp⟩)

theorem iterates_lods (s : State) (w : Nat) (g : SReg) :
    Iterates { regs := [.ax, .si] } w false s (s.lodsIter w g) :=
  Ends.bind (reads_memRead s _ _ _) (fun v _ => by
    have h : Frame { regs := [.ax] } nowhere s
        (if w = 1 then s.setR8 .al (BitVec.ofNat 8 v) else s.setR16 .ax (BitVec.ofNat 16 v)) := by
      split
      · exact frame_setR8 s .al _
      · exact frame_setR16 s .ax _
    exact ⟨(h.mono (by constructor <;> simp) (nowhere_le _)).trans
      ((frame_stepSi _ w).mono (by constructor <;> simp) (nowhere_le _)), by simp⟩)

/-- Iterations after one another: the bytes of the `k`-th are at `DI` moved `k` times. -/
theorem framed_repLoop {c : Scope} {w : Nat} {stores : Bool} {iter : State → Except Fault State}
    {stop : State → Bool} (hi : ∀ s, Iterates c w stores s (iter s)) (hcx : .cx ∈ c.regs) (hs : c.segs = [])
    (hdf : FlagName.DF ∉ c.flags) (n : Nat) (s : State) :
    Framed c (fun a b => ∃ k < n, within (if stores then some (s.sreg.es, s.gpr.di + BitVec.ofNat 16 k * s.delta w, w)
      else none) a b) s (repLoop iter stop n s) := by
  induction n generalizing s with
  | zero => exact .ok (Frame.refl _ _ s)
  | succ n ih =>
    refine Ends.bind (hi s) (fun t ht => ?_)
    obtain ⟨ht, hdi⟩ := ht
    have hu : Frame c (fun a b => ∃ k < n + 1, within (if stores then
        some (s.sreg.es, s.gpr.di + BitVec.ofNat 16 k * s.delta w, w) else none) a b) s
        (t.setR16 .cx (t.gpr.cx - 1)) := by
      refine (ht.mono (Scope.Le.refl c) (fun a b e => ⟨0, by omega, ?_⟩)).trans
        ((frame_setR16 t .cx _).mono (by constructor <;> simp [hcx]) (nowhere_le _))
      simpa using e
    by_cases hst : stop (t.setR16 .cx (t.gpr.cx - 1)) = true
    · simp only [hst, if_true]
      exact hu
    · simp only [hst]
      refine ((ih _).mono (Scope.Le.refl c) (fun a b e => ?_)).after hu (by simp [hs])
      obtain ⟨k, hk, e⟩ := e
      refine ⟨k + 1, by omega, ?_⟩
      cases stores with
      | false => exact e
      | true =>
        have h1 : t.sreg.es = s.sreg.es := ht.segs .es (by simp [hs])
        have h2 : t.flags.DF = s.flags.DF := ht.flags .DF hdf
        have h3 : (t.setR16 .cx (t.gpr.cx - 1)).delta w = s.delta w := by
          rw [State.delta, State.delta, State.setR16_flags, h2]
        have h4 : (t.setR16 .cx (t.gpr.cx - 1)).gpr.di = s.gpr.di + s.delta w := hdi rfl
        simp only [if_true] at e ⊢
        rw [h3, h4, State.setR16_sreg, h1] at e
        rw [BitVec.ofNat_add, BitVec.add_mul, BitVec.add_comm (BitVec.ofNat 16 k * _)]
        simpa [BitVec.add_assoc] using e

/-! ## The host -/

/-- What a hand-off never does: the halted marker and the parameters are kept, the store's canonical form too, and no
segment is removed or resized (60_exceptions R466). -/
structure Kept (s t : State) : Prop where
  halted : t.halted = s.halted
  params : t.params = s.params
  wf : s.mem.wf = true → t.mem.wf = true
  segSize : s.mem.wf = true → ∀ sel z, s.mem.segSize sel = some z → t.mem.segSize sel = some z

theorem Kept.refl (s : State) : Kept s s := ⟨rfl, rfl, id, fun _ _ _ h => h⟩

theorem Kept.trans {s t u : State} (h : Kept s t) (k : Kept t u) : Kept s u :=
  ⟨k.halted.trans h.halted, k.params.trans h.params, fun e => k.wf (h.wf e),
    fun e a z hz => k.segSize (h.wf e) a z (h.segSize e a z hz)⟩

theorem Frame.kept {c : Scope} {W : Word → Word → Prop} {s t : State} (h : Frame c W s t) (hc : c.halted = false) :
    Kept s t :=
  ⟨h.halted hc, h.params, h.wf, fun _ a z hz => by simpa only [Memory.segSize, h.memSegs] using hz⟩

/-- A mutator that ends in an operation of the core keeps what the operation keeps. -/
theorem kept_reported {α : Type} {s : State} {a : HostAction} {o : Except Fault α} {E : Fault → Prop} {f : α → HostReply × State}
    (h : Ends E (fun x => Kept s (f x).2) o) (e : a.call s = (reported o).map f) : Kept s (a.apply s) := by
  unfold HostAction.apply
  rw [e]
  cases o with
  | ok t => exact h
  | error f => exact Kept.refl s

theorem kept_push (s : State) (n v : Nat) (h0 : 0 < n) (hn : n ≤ 2) : Ends (Misplaced s) (Kept s) (s.pushN n v) :=
  Ends.mono (ends_pushN s n v h0 hn) (fun _ e => e) (fun _ e => e.1.kept rfl)

theorem kept_pop (s : State) (n : Nat) : Ends (fun _ => True) (fun p => Kept s p.2) (s.popN n) := by
  unfold State.popN
  split
  · trivial
  · split
    · trivial
    · exact Ends.map (Ends.mono (reads_memRead s _ _ _) (fun _ _ => trivial) (fun _ _ => (frame_setR16 s .sp _).kept rfl))

theorem kept_apply (a : HostAction) (s : State) : Kept s (a.apply s) := by
  cases a with
  | push8 v => exact kept_reported (kept_push s 1 _ (by decide) (by decide)) rfl
  | push16 v => exact kept_reported (kept_push s 2 _ (by decide) (by decide)) rfl
  | pop8 => exact kept_reported (Ends.map (kept_pop s 1)) rfl
  | pop16 => exact kept_reported (Ends.map (kept_pop s 2)) rfl
  | setR16 r v => exact (frame_setR16 s r v).kept rfl
  | setR8 r v => exact (frame_setR8 s r v).kept rfl
  | setSReg r v => exact (frame_setSeg s r v).kept rfl
  | addSegment sel size =>
    simp only [HostAction.apply, HostAction.call, Memory.addSegment]
    split
    next x hx =>
      split at hx
      · rename_i hc
        cases hx
        refine ⟨rfl, rfl, fun h => Memory.wf_insertSeg h sel size hc.1 hc.2.1 (fun z hz => by rw [hc.2.2] at hz; cases hz),
          fun h a z hz => ?_⟩
        unfold Memory.segSize at *
        simp only []
        rw [lookupSeg_insertSeg _ _ _ _ ((Memory.wf_iff _).1 h).1]
        split
        · rename_i he; rw [he, hc.2.2] at hz; cases hz
        · exact hz
      · cases hx
    next => exact Kept.refl s
  | writeByte sel off v => exact kept_reported (Ends.mono (framed_write8 s sel off v) (fun _ e => e) (fun _ e => e.kept rfl)) rfl
  | writeWord sel off v => exact kept_reported (Ends.mono (framed_write16 s sel off v) (fun _ e => e) (fun _ e => e.kept rfl)) rfl
  | setIp _ | setFlag _ _ | setFlags _ | fpLoad _ _ | setTop _ | setTag _ _ | setCw _ | setCond _ | setExc _ =>
    exact ⟨rfl, rfl, id, fun _ _ _ h => h⟩

theorem kept_handOff (s : State) (moves : List HostAction) : Kept s (s.handOff moves) := by
  unfold State.handOff
  induction moves generalizing s with
  | nil => exact Kept.refl s
  | cons a l ih => exact (kept_apply a s).trans (ih _)

end Sys2Proof.Machine
end

