-- ==== Sys2Proof/Laws/Accesses.lean ====
section
/-! SUPPORT. The accesses of an operation in order, in the words of the statements: `Accesses s L o Q` says that `o` answers
the fault of the first access of `L` that fails, and, where none fails, a value of which `Q` holds. One lemma for
each operation of memory and stack, and the rule for one operation after another. -/

namespace Sys2Proof.Machine

open Sys2Proof.Spec

/-- `o` does the accesses of `L` in order. -/
def Accesses {α : Type} (s : State) (L : List Access) (o : Except Fault α) (Q : α → Prop) : Prop :=
  match L.findSome? (Access.failsAt s) with
  | some a => o = .error (.addressing a.1 a.2)
  | none => ∃ x, o = .ok x ∧ Q x

theorem Accesses.bind {α β : Type} {s : State} {L M : List Access} {o : Except Fault α} {P : α → Prop} {Q : β → Prop}
    {k : α → Except Fault β} (h : Accesses s L o P) (hk : ∀ x, P x → Accesses s M (k x) Q) :
    Accesses s (L ++ M) (o >>= k) Q := by
  unfold Accesses at *
  rw [List.findSome?_append]
  cases e : L.findSome? (Access.failsAt s) with
  | some a => simp only [e] at h; subst h; rfl
  | none =>
    simp only [e] at h
    obtain ⟨x, rfl, hx⟩ := h
    exact hk x hx

theorem Accesses.pure {α : Type} {s : State} {x : α} {Q : α → Prop} (h : Q x) : Accesses s [] (Except.ok x) Q :=
  ⟨x, rfl, h⟩

theorem Accesses.map {α β : Type} {s : State} {L : List Access} {o : Except Fault α} {P : α → Prop} {Q : β → Prop}
    {g : α → β} (h : Accesses s L o P) (hg : ∀ x, P x → Q (g x)) : Accesses s L (o.map g) Q := by
  unfold Accesses at *
  split at h
  · subst h; rfl
  · obtain ⟨x, rfl, hx⟩ := h; exact ⟨_, rfl, hg x hx⟩

theorem Accesses.mono {α : Type} {s : State} {L : List Access} {o : Except Fault α} {P Q : α → Prop}
    (h : Accesses s L o P) (hg : ∀ x, P x → Q x) : Accesses s L o Q := by
  unfold Accesses at *
  split at h
  · exact h
  · obtain ⟨x, rfl, hx⟩ := h; exact ⟨_, rfl, hg x hx⟩

theorem firstBad_eq_find (m : Memory) (sel : Word) : ∀ (n : Nat) (off : Word),
    ((List.range n).find? (fun k => !m.inBounds sel (off + BitVec.ofNat 16 k))).map
        (fun k => (sel, off + BitVec.ofNat 16 k))
      = (m.firstBad sel off n).map (fun b => (sel, b))
  | 0, off => rfl
  | n + 1, off => by
    rw [List.range_succ_eq_map, List.find?_cons, Memory.firstBad]
    by_cases h : m.inBounds sel off = true
    · rw [if_pos h, ← firstBad_eq_find m sel n (off + 1)]
      rw [show (!m.inBounds sel (off + BitVec.ofNat 16 0)) = false by simp [h], List.find?_map]
      simp only [Option.map_map, Function.comp_def, Nat.succ_eq_add_one, ofNat_succ16]
    · simp [h]

theorem missing_eq (s : State) (sel off : Word) (n : Nat) :
    Access.failsAt.missing s sel off n = (s.mem.firstBad sel off n).map (fun b => (sel, b)) :=
  firstBad_eq_find _ _ _ _

/-- The part of the state that the bounds of accesses depend on. -/
structure SameBounds (s t : State) : Prop where
  segs : t.mem.segs = s.mem.segs
  ss : t.sreg.ss = s.sreg.ss

theorem failsAt_congr {s t : State} (h : SameBounds s t) : Access.failsAt t = Access.failsAt s := by
  have e : ∀ a b, t.mem.inBounds a b = s.mem.inBounds a b := fun a b => by simp [Memory.inBounds, Memory.segSize, h.segs]
  have e2 : ∀ a, t.mem.segSize a = s.mem.segSize a := fun a => by simp [Memory.segSize, h.segs]
  funext a
  cases a <;> simp [Access.failsAt, Access.failsAt.missing, e, e2, h.ss]

theorem Accesses.of_sameBounds {α : Type} {s t : State} {L : List Access} {o : Except Fault α} {Q : α → Prop} (h : SameBounds s t)
    (k : Accesses t L o Q) : Accesses s L o Q := by
  unfold Accesses at *; rwa [failsAt_congr h] at k

theorem accesses_memRead (s : State) (sel off : Word) (n : Nat) :
    Accesses s [.bytes sel off n] (s.memRead sel off n) (fun _ => True) := by
  simp only [Accesses, List.findSome?_cons, List.findSome?_nil, Access.failsAt, missing_eq, State.memRead]
  cases s.mem.firstBad sel off n <;> simp

theorem accesses_memWrite (s : State) (sel off : Word) (n v : Nat) :
    Accesses s [.bytes sel off n] (s.memWrite sel off n v)
      (fun t => t = { s with mem := t.mem } ∧ t.mem.segs = s.mem.segs) := by
  simp only [Accesses, List.findSome?_cons, List.findSome?_nil, Access.failsAt, missing_eq, State.memWrite]
  cases s.mem.firstBad sel off n <;> simp

theorem accesses_readBits (s : State) (sel off : Word) (n : Nat) :
    Accesses s [.bytes sel off n] (s.readBits sel off n) (fun _ => True) :=
  (accesses_memRead s sel off n).map (fun _ _ => trivial)

/-- A push. -/
theorem accesses_push16 (s : State) (v : Word) : Accesses s [.push s.gpr.sp] (s.push16 v)
    (fun t => SameBounds s t ∧ t.gpr = { s.gpr with sp := s.gpr.sp - 2 } ∧ t.sreg = s.sreg) := by
  unfold State.push16 State.pushN
  by_cases h : s.gpr.sp.toNat < 2
  · simp [Accesses, Access.failsAt, h]
  · rw [if_neg h]
    have := accesses_memWrite s s.sreg.ss (s.gpr.sp - BitVec.ofNat 16 2) 2 v.toNat
    simp only [Accesses, List.findSome?_cons, List.findSome?_nil, Access.failsAt, if_neg h] at this ⊢
    cases e : Access.failsAt.missing s s.sreg.ss (s.gpr.sp - 2) 2 with
    | some a =>
      rw [show BitVec.ofNat 16 2 = (2#16) from rfl] at this
      simp only [show s.gpr.sp - 2#16 = s.gpr.sp - 2 from rfl, e] at this ⊢
      rw [this]; rfl
    | none =>
      simp only [show BitVec.ofNat 16 2 = (2 : Word) from rfl, e] at this ⊢
      obtain ⟨t, h1, h2, h3⟩ := this
      rw [h1]
      refine ⟨_, rfl, ⟨h3, ?_⟩, ?_, ?_⟩ <;> rw [h2] <;> rfl

/-- A pop. -/
theorem accesses_pop16 (s : State) : Accesses s [.pop s.gpr.sp] s.pop16
    (fun p => p.2 = { s with gpr := { s.gpr with sp := s.gpr.sp + 2 } }) := by
  unfold State.pop16 State.popN
  simp only [Accesses, List.findSome?_cons, List.findSome?_nil, Access.failsAt]
  cases hz : s.mem.segSize s.sreg.ss with
  | none => rfl
  | some z =>
    dsimp only
    by_cases h : z < s.gpr.sp.toNat + 2
    · simp [h, Except.map]
    · have hc : s.canPopAt 0 = true := by simp [State.canPopAt, hz]; omega
      have := State.pop16_ok hc
      unfold State.pop16 State.popN at this
      rw [hz] at this
      simp only [if_neg h] at this ⊢
      exact ⟨_, this, rfl⟩

theorem sub_two_succ (a : Word) (j : Nat) : a - BitVec.ofNat 16 (2 * (j + 1)) = a - 2 - BitVec.ofNat 16 (2 * j) := by
  rw [show 2 * (j + 1) = 2 + 2 * j by ring, BitVec.ofNat_add]
  rw [show BitVec.ofNat 16 2 = (2:Word) from rfl]
  generalize BitVec.ofNat 16 (2 * j) = x
  bv_omega

theorem add_two_succ (a : Word) (j : Nat) : a + BitVec.ofNat 16 (2 * (j + 1)) = a + 2 + BitVec.ofNat 16 (2 * j) := by
  rw [show 2 * (j + 1) = 2 + 2 * j by ring, BitVec.ofNat_add]
  rw [show BitVec.ofNat 16 2 = (2:Word) from rfl, BitVec.add_assoc]

theorem pushesAt_succ (sp : Word) (n : Nat) : pushesAt sp (n + 1) = .push sp :: pushesAt (sp - 2) n := by
  unfold pushesAt
  rw [List.range_succ_eq_map, List.map_cons, List.map_map]
  simp [Function.comp_def, sub_two_succ]

theorem popsAt_succ (sp : Word) (n : Nat) : popsAt sp (n + 1) = .pop sp :: popsAt (sp + 2) n := by
  unfold popsAt
  rw [List.range_succ_eq_map, List.map_cons, List.map_map]
  simp [Function.comp_def, add_two_succ]

/-- Words pushed one after another. -/
theorem accesses_pushList (vs : List Word) :
    ∀ s : State, Accesses s (pushesAt s.gpr.sp vs.length) (s.pushList vs) (fun t => SameBounds s t) := by
  induction vs with
  | nil => exact fun s => ⟨s, rfl, rfl, rfl⟩
  | cons v vs ih =>
    intro s
    rw [List.length_cons, pushesAt_succ]
    refine (accesses_push16 s v).bind (M := pushesAt (s.gpr.sp - 2) vs.length) fun t h => ?_
    have := ih t
    rw [h.2.1] at this
    exact (this.of_sameBounds h.1).mono fun u k => ⟨k.segs.trans h.1.segs, k.ss.trans h.1.ss⟩

/-- A register popped. -/
theorem accesses_popReg (s : State) (r : R16) : Accesses s [.pop s.gpr.sp] (s.popReg r)
    (fun t => SameBounds s t ∧ (r ≠ .sp → t.gpr.sp = s.gpr.sp + 2)) := by
  unfold State.popReg
  refine (accesses_pop16 s).bind (M := []) fun p h => .pure ?_
  rw [h]; cases r <;> exact ⟨⟨rfl, rfl⟩, by simp [State.setR16, Gpr.set]⟩

/-- An operation that does a list of accesses faults where the first of them that fails says. -/
theorem Accesses.fault {i : Instr} {s : State} {o : Except Fault State} {L : List Access} {Q : State → Prop}
    (h : Accesses s L o Q) (e : exec i s = finish o) {sel off : Word}
    (k : L.findSome? (Access.failsAt s) = some (sel, off)) : exec i s = .fault (.addressing sel off) := by
  unfold Accesses at h
  rw [k] at h
  rw [e, h]; rfl

end Sys2Proof.Machine
end

