-- ==== Sys2Proof/Laws/Flags.lean ====
section
/-! SUPPORT. The flag computations in the form the rules give second: range forms of carry and overflow, rotations as
bit-vector rotations. -/

namespace Sys2Proof.Machine

open Sys2Proof.Spec

variable {n : Nat}

theorem zfOf_eq (r : BitVec n) : zfOf r = decide (r.toNat = 0) := by
  unfold zfOf
  have : r = 0 ↔ r.toNat = 0 := ⟨fun h => by rw [h]; simp, fun h => BitVec.eq_of_toNat_eq (by simpa using h)⟩
  simp only [this]

theorem sfOf_eq (r : BitVec n) : sfOf r = decide (2 ^ (n - 1) ≤ r.toNat) := by
  unfold sfOf
  exact BitVec.msb_eq_decide r

theorem pfOf_eq (r : BitVec n) : pfOf r = evenOnes r := by
  unfold pfOf evenOnes
  simp only [List.range_succ, List.range_zero, List.nil_append, List.countP_cons, List.countP_nil,
    List.cons_append]
  cases r.getLsbD 0 <;> cases r.getLsbD 1 <;> cases r.getLsbD 2 <;> cases r.getLsbD 3 <;> cases r.getLsbD 4 <;>
    cases r.getLsbD 5 <;> cases r.getLsbD 6 <;> cases r.getLsbD 7 <;> rfl

/-- A bit, by division. -/
theorem getLsbD_div (r : BitVec n) (i : Nat) : r.getLsbD i = decide (r.toNat / 2 ^ i % 2 = 1) := by
  rw [← BitVec.testBit_toNat, Nat.testBit_eq_decide_div_mod_eq]

theorem xor_decide (p q : Prop) [Decidable p] [Decidable q] : (decide p ^^ decide q) = decide ¬(p ↔ q) := by
  by_cases hp : p <;> by_cases hq : q <;> simp [hp, hq]

theorem toInt_cases (r : BitVec n) :
    (r.toNat < 2 ^ (n - 1) ∧ 2 * r.toNat < 2 ^ n ∧ r.toInt = r.toNat)
    ∨ (2 ^ n ≤ 2 * r.toNat ∧ r.toInt = r.toNat - 2 ^ n) := by
  rw [BitVec.toInt_eq_toNat_cond]
  by_cases h : 2 * r.toNat < 2 ^ n
  · left
    refine ⟨?_, h, by rw [if_pos h]⟩
    cases n with
    | zero => have := r.isLt; simp only [Nat.pow_zero] at this; simp; omega
    | succ n => simp only [Nat.add_sub_cancel]; rw [Nat.pow_succ] at h; omega
  · right
    exact ⟨by omega, by rw [if_neg h]; push_cast; rfl⟩

theorem logicFlags_eq (m : UfMnemonic) (a b r : BitVec n) : logicFlags m a b r = (r, bitFlags m a b r) := by
  simp only [logicFlags, bitFlags, resultFlags, ufOf, zfOf_eq, sfOf_eq, pfOf_eq]

/-! ## 8 bits -/

theorem ofInt_sub8 (x y : Int) : BitVec.ofInt 8 (x - y) = BitVec.ofInt 8 x - BitVec.ofInt 8 y := by
  rw [Int.sub_eq_add_neg, BitVec.ofInt_add, BitVec.ofInt_neg, ← BitVec.sub_eq_add_neg]

theorem addFlags_eq8 (a b : BitVec 8) (c : Bool) :
    addFlags a b c = (a + b + BitVec.ofNat 8 c.toNat, sumFlags a b c) := by
  have hres : BitVec.ofNat 8 (a.toNat + b.toNat + c.toNat) = a + b + BitVec.ofNat 8 c.toNat := by
    rw [BitVec.ofNat_add, BitVec.ofNat_add, BitVec.ofNat_toNat, BitVec.ofNat_toNat, BitVec.setWidth_eq, BitVec.setWidth_eq]
  unfold addFlags sumFlags resultFlags
  simp only [hres, Prod.mk.injEq, true_and, zfOf_eq, sfOf_eq, pfOf_eq, StatusFlags.mk.injEq]
  have hr : (a + b + BitVec.ofNat 8 c.toNat).toNat = (a.toNat + b.toNat + c.toNat) % 256 := by
    rw [← hres]; simp
  have hc : c.toNat ≤ 1 := Bool.toNat_le c
  have ha := a.isLt
  have hb := b.isLt
  refine ⟨?_, ?_⟩
  · rw [BitVec.getLsbD_xor, BitVec.getLsbD_xor, getLsbD_div, getLsbD_div, getLsbD_div, hr, xor_decide, xor_decide,
      decide_eq_decide]
    omega
  · rw [BitVec.msb_and, BitVec.msb_xor, BitVec.msb_xor, BitVec.msb_eq_decide, BitVec.msb_eq_decide, BitVec.msb_eq_decide, hr,
      xor_decide, xor_decide, ← Bool.decide_and, outside, decide_eq_decide]
    rcases toInt_cases a with h | h <;> rcases toInt_cases b with h' | h' <;> omega

theorem subFlags_eq8 (a b : BitVec 8) (c : Bool) :
    subFlags a b c = (a - b - BitVec.ofNat 8 c.toNat, diffFlags a b c) := by
  have hres : BitVec.ofInt 8 ((a.toNat : Int) - b.toNat - c.toNat) = a - b - BitVec.ofNat 8 c.toNat := by
    rw [ofInt_sub8, ofInt_sub8, BitVec.ofInt_natCast, BitVec.ofInt_natCast, BitVec.ofInt_natCast, BitVec.ofNat_toNat,
      BitVec.ofNat_toNat, BitVec.setWidth_eq, BitVec.setWidth_eq]
  unfold subFlags diffFlags resultFlags
  simp only [hres, Prod.mk.injEq, true_and, zfOf_eq, sfOf_eq, pfOf_eq, StatusFlags.mk.injEq]
  have hr : ((a - b - BitVec.ofNat 8 c.toNat).toNat : Int) = ((a.toNat : Int) - b.toNat - c.toNat) % 256 := by
    rw [← hres, BitVec.toNat_ofInt]
    have := Int.emod_nonneg ((a.toNat : Int) - b.toNat - c.toNat) (show (256 : Int) ≠ 0 by decide)
    simp; omega
  have hc : c.toNat ≤ 1 := Bool.toNat_le c
  have ha := a.isLt
  have hb := b.isLt
  generalize hx : (a - b - BitVec.ofNat 8 c.toNat) = r at *
  have hr' := r.isLt
  refine ⟨?_, ?_⟩
  · rw [BitVec.getLsbD_xor, BitVec.getLsbD_xor, getLsbD_div, getLsbD_div, getLsbD_div, xor_decide, xor_decide,
      decide_eq_decide]
    omega
  · rw [BitVec.msb_and, BitVec.msb_xor, BitVec.msb_xor, BitVec.msb_eq_decide, BitVec.msb_eq_decide, BitVec.msb_eq_decide,
      xor_decide, xor_decide, ← Bool.decide_and, outside, decide_eq_decide]
    rcases toInt_cases a with h | h <;> rcases toInt_cases b with h' | h' <;> omega


/-! ## 16 bits -/

theorem ofInt_sub16 (x y : Int) : BitVec.ofInt 16 (x - y) = BitVec.ofInt 16 x - BitVec.ofInt 16 y := by
  rw [Int.sub_eq_add_neg, BitVec.ofInt_add, BitVec.ofInt_neg, ← BitVec.sub_eq_add_neg]

theorem addFlags_eq16 (a b : BitVec 16) (c : Bool) :
    addFlags a b c = (a + b + BitVec.ofNat 16 c.toNat, sumFlags a b c) := by
  have hres : BitVec.ofNat 16 (a.toNat + b.toNat + c.toNat) = a + b + BitVec.ofNat 16 c.toNat := by
    rw [BitVec.ofNat_add, BitVec.ofNat_add, BitVec.ofNat_toNat, BitVec.ofNat_toNat, BitVec.setWidth_eq, BitVec.setWidth_eq]
  unfold addFlags sumFlags resultFlags
  simp only [hres, Prod.mk.injEq, true_and, zfOf_eq, sfOf_eq, pfOf_eq, StatusFlags.mk.injEq]
  have hr : (a + b + BitVec.ofNat 16 c.toNat).toNat = (a.toNat + b.toNat + c.toNat) % 65536 := by
    rw [← hres]; simp
  have hc : c.toNat ≤ 1 := Bool.toNat_le c
  have ha := a.isLt
  have hb := b.isLt
  refine ⟨?_, ?_⟩
  · rw [BitVec.getLsbD_xor, BitVec.getLsbD_xor, getLsbD_div, getLsbD_div, getLsbD_div, hr, xor_decide, xor_decide,
      decide_eq_decide]
    omega
  · rw [BitVec.msb_and, BitVec.msb_xor, BitVec.msb_xor, BitVec.msb_eq_decide, BitVec.msb_eq_decide, BitVec.msb_eq_decide, hr,
      xor_decide, xor_decide, ← Bool.decide_and, outside, decide_eq_decide]
    rcases toInt_cases a with h | h <;> rcases toInt_cases b with h' | h' <;> omega

theorem subFlags_eq16 (a b : BitVec 16) (c : Bool) :
    subFlags a b c = (a - b - BitVec.ofNat 16 c.toNat, diffFlags a b c) := by
  have hres : BitVec.ofInt 16 ((a.toNat : Int) - b.toNat - c.toNat) = a - b - BitVec.ofNat 16 c.toNat := by
    rw [ofInt_sub16, ofInt_sub16, BitVec.ofInt_natCast, BitVec.ofInt_natCast, BitVec.ofInt_natCast, BitVec.ofNat_toNat,
      BitVec.ofNat_toNat, BitVec.setWidth_eq, BitVec.setWidth_eq]
  unfold subFlags diffFlags resultFlags
  simp only [hres, Prod.mk.injEq, true_and, zfOf_eq, sfOf_eq, pfOf_eq, StatusFlags.mk.injEq]
  have hr : ((a - b - BitVec.ofNat 16 c.toNat).toNat : Int) = ((a.toNat : Int) - b.toNat - c.toNat) % 65536 := by
    rw [← hres, BitVec.toNat_ofInt]
    have := Int.emod_nonneg ((a.toNat : Int) - b.toNat - c.toNat) (show (65536 : Int) ≠ 0 by decide)
    simp; omega
  have hc : c.toNat ≤ 1 := Bool.toNat_le c
  have ha := a.isLt
  have hb := b.isLt
  generalize hx : (a - b - BitVec.ofNat 16 c.toNat) = r at *
  have hr' := r.isLt
  refine ⟨?_, ?_⟩
  · rw [BitVec.getLsbD_xor, BitVec.getLsbD_xor, getLsbD_div, getLsbD_div, getLsbD_div, xor_decide, xor_decide,
      decide_eq_decide]
    omega
  · rw [BitVec.msb_and, BitVec.msb_xor, BitVec.msb_xor, BitVec.msb_eq_decide, BitVec.msb_eq_decide, BitVec.msb_eq_decide,
      xor_decide, xor_decide, ← Bool.decide_and, outside, decide_eq_decide]
    rcases toInt_cases a with h | h <;> rcases toInt_cases b with h' | h' <;> omega

/-! ## Shifts and rotates -/

theorem rotl_eq (a : BitVec n) (c : Nat) : rotl a (c % n) = a.rotateLeft c := by
  rw [BitVec.rotateLeft_def, rotl]
  split
  · rename_i h; simp [h, BitVec.ushiftRight_eq_zero (Nat.le_refl n)]
  · rfl

theorem rotr_eq (a : BitVec n) (c : Nat) : rotr a (c % n) = a.rotateRight c := by
  rw [BitVec.rotateRight_def, rotr]
  split
  · rename_i h; simp [h]
  · rfl

theorem shlBy_eq (a : BitVec n) (c : Nat) (f : Flags) : shlBy a c f = Spec.shl n a c f := by
  have h : BitVec.ofNat n (a.toNat * 2 ^ c) = a <<< c := by
    apply BitVec.eq_of_toNat_eq
    simp [BitVec.toNat_shiftLeft, Nat.shiftLeft_eq]
  simp only [shlBy, Spec.shl, shiftFlags, shiftUf, resultFlags, h, zfOf_eq, sfOf_eq, pfOf_eq]

theorem shrBy_eq (a : BitVec n) (c : Nat) (f : Flags) : shrBy a c f = Spec.shr n a c f := by
  have h : BitVec.ofNat n (a.toNat / 2 ^ c) = a >>> c := by
    apply BitVec.eq_of_toNat_eq
    have := Nat.lt_of_le_of_lt (Nat.div_le_self a.toNat (2 ^ c)) a.isLt
    simp [BitVec.toNat_ushiftRight, Nat.shiftRight_eq_div_pow, Nat.mod_eq_of_lt this]
  simp only [shrBy, Spec.shr, shiftFlags, shiftUf, resultFlags, h, zfOf_eq, sfOf_eq, pfOf_eq,
    BitVec.msb_eq_getLsbD_last]

theorem sarBy_eq (a : BitVec n) (c : Nat) (f : Flags) (hn : 0 < n) (hc : 0 < c) : sarBy a c f = Spec.sar n a c f := by
  have h : BitVec.ofInt n (a.toInt.fdiv (2 ^ c)) = a.sshiftRight c := by
    rw [BitVec.sshiftRight_eq, Int.shiftRight_eq_div_pow, Int.fdiv_eq_ediv_of_nonneg _ (by positivity)]
    push_cast; rfl
  have hcf : (if c ≤ n - 1 then a.getLsbD (c - 1) else a.msb) = (a.sshiftRight (c - 1)).getLsbD 0 := by
    rw [BitVec.getLsbD_sshiftRight]
    by_cases h1 : c ≤ n - 1
    · rw [if_pos h1, if_pos (by omega)]
      simp [show ¬ n ≤ 0 by omega]
    · rw [if_neg h1]
      by_cases h2 : c - 1 + 0 < n
      · rw [if_pos h2]
        have : c - 1 + 0 = n - 1 := by omega
        simp [this, show ¬ n ≤ 0 by omega, BitVec.msb_eq_getLsbD_last]
      · rw [if_neg h2]
        simp [show ¬ n ≤ 0 by omega]
  simp only [sarBy, Spec.sar, shiftFlags, shiftUf, resultFlags, h, hcf, zfOf_eq, sfOf_eq, pfOf_eq]

theorem rolBy_eq (a : BitVec n) (c : Nat) (f : Flags) : rolBy a c f = Spec.rol n a c f := by
  simp only [rolBy, Spec.rol, rotateFlags, shiftUf, rotl_eq, BitVec.msb_eq_getLsbD_last]

theorem rorBy_eq (a : BitVec n) (c : Nat) (f : Flags) : rorBy a c f = Spec.ror n a c f := by
  simp only [rorBy, Spec.ror, rotateFlags, shiftUf, rotr_eq, BitVec.msb_eq_getLsbD_last]

theorem rclBy_eq (a : BitVec n) (c : Nat) (f : Flags) (hn : 0 < n) : rclBy a c f = Spec.rcl n a c f := by
  simp only [rclBy, Spec.rcl, rotateFlags, shiftUf, rotl_eq, BitVec.msb_eq_getLsbD_last, BitVec.getLsbD_setWidth,
    Nat.add_sub_cancel, show n - 1 < n by omega, decide_true, Bool.true_and]

theorem rcrBy_eq (a : BitVec n) (c : Nat) (f : Flags) (hn : 1 < n) : rcrBy a c f = Spec.rcr n a c f := by
  simp only [rcrBy, Spec.rcr, rotateFlags, shiftUf, rotr_eq, BitVec.msb_eq_getLsbD_last, BitVec.getLsbD_setWidth,
    Nat.add_sub_cancel, show n - 1 < n by omega, show n - 2 < n by omega, decide_true, Bool.true_and]

theorem maskedCount_eq (raw : Byte) : maskedCount raw = raw.toNat % 32 := by
  unfold maskedCount
  rw [BitVec.toNat_and]
  exact Nat.and_two_pow_sub_one_eq_mod raw.toNat 5

end Sys2Proof.Machine
end

