-- ==== Sys2Proof/Laws/Numerics.lean ====
section
/-! SUPPORT. Laws of the floating-point data and of the exact rationals under them: each operation of Machine/Numerics.lean
that a proof about a result meets, against the rational numbers and the bits of the data, in the words of the statements
(46_x87_numerics). -/

namespace Sys2Proof.Machine

open Sys2Proof.Spec

/-! ## Rationals as pairs, and the rational numbers they stand for -/

theorem rat_den_ne_zero (x : Ratio) (h : 0 < x.den) : (x.den : ℚ) ≠ 0 := by exact_mod_cast h.ne'

theorem pow2_den_pos (k : Int) : 0 < (pow2 k).den := by unfold pow2; split <;> simp

theorem rat_pow2 (k : Int) : rat (pow2 k) = (2 : ℚ) ^ k := by
  unfold pow2 rat
  split
  · rename_i h
    obtain ⟨n, rfl⟩ := Int.eq_ofNat_of_zero_le h
    simp
  · rename_i h
    obtain ⟨n, hn⟩ := Int.eq_ofNat_of_zero_le (show 0 ≤ -k by omega)
    rw [show k = -(n : Int) by omega]
    simp

theorem rat_add (x y : Ratio) (hx : 0 < x.den) (hy : 0 < y.den) : rat (x.add y) = rat x + rat y := by
  have := rat_den_ne_zero x hx; have := rat_den_ne_zero y hy
  simp only [rat, Ratio.add]; push_cast; field_simp

theorem rat_mul (x y : Ratio) : rat (x.mul y) = rat x * rat y := by
  simp only [rat, Ratio.mul]; push_cast; rw [div_mul_div_comm]

theorem rat_neg (x : Ratio) : rat x.neg = -rat x := by simp only [rat, Ratio.neg]; push_cast; rw [neg_div]

theorem rat_ofInt (i : Int) : rat (.ofInt i) = i := by simp [rat, Ratio.ofInt]

theorem rat_abs (x : Ratio) : rat x.abs = |rat x| := by
  simp only [rat, Ratio.abs, abs_div]
  rw [abs_of_nonneg (show (0:ℚ) ≤ (x.den : ℚ) by positivity)]
  congr 1
  have : ((x.num.natAbs : Int) : ℚ) = ((|x.num| : Int) : ℚ) := by rw [Int.abs_eq_natAbs]
  rw [this]; push_cast; rfl

theorem rat_div (x y : Ratio) (hy : 0 < y.den) (h : y.num ≠ 0) : rat (x.div y) = rat x / rat y := by
  have h1 := rat_den_ne_zero y hy
  have h2 : (y.num : ℚ) ≠ 0 := by exact_mod_cast h
  have h3 : ((y.num.natAbs : Nat) : ℚ) = y.num.sign * y.num := by
    have : ((y.num.natAbs : Int)) = y.num.sign * y.num := by
      rw [Int.sign_mul_self_eq_natAbs]
    rw [show ((y.num.natAbs : Nat):ℚ) = ((y.num.natAbs:Int):ℚ) from (Int.cast_natCast _).symm, this, Int.cast_mul]
  have h4 : (y.num.sign : ℚ) ≠ 0 := by exact_mod_cast mt Int.sign_eq_zero_iff_zero.1 h
  simp only [rat, Ratio.div]; push_cast; rw [h3]; field_simp

theorem Ratio.add_den_pos (x y : Ratio) (hx : 0 < x.den) (hy : 0 < y.den) : 0 < (x.add y).den := Nat.mul_pos hx hy

theorem Ratio.mul_den_pos (x y : Ratio) (hx : 0 < x.den) (hy : 0 < y.den) : 0 < (x.mul y).den := Nat.mul_pos hx hy

theorem Ratio.div_den_pos (x y : Ratio) (hx : 0 < x.den) (h : y.num ≠ 0) : 0 < (x.div y).den := Nat.mul_pos hx (by omega)

theorem Ratio.lt_iff (x y : Ratio) (hx : 0 < x.den) (hy : 0 < y.den) : x.lt y = true ↔ rat x < rat y := by
  simp only [Ratio.lt, decide_eq_true_eq, rat]
  rw [div_lt_div_iff₀ (by exact_mod_cast hx) (by exact_mod_cast hy)]
  exact_mod_cast Iff.rfl

theorem Ratio.le_iff (x y : Ratio) (hx : 0 < x.den) (hy : 0 < y.den) : x.le y = true ↔ rat x ≤ rat y := by
  simp only [Ratio.le, decide_eq_true_eq, rat]
  rw [div_le_div_iff₀ (by exact_mod_cast hx) (by exact_mod_cast hy)]
  exact_mod_cast Iff.rfl

theorem Ratio.eq_iff (x y : Ratio) (hx : 0 < x.den) (hy : 0 < y.den) : x.eq y = true ↔ rat x = rat y := by
  simp only [Ratio.eq, decide_eq_true_eq, rat]
  rw [div_eq_div_iff (rat_den_ne_zero x hx) (rat_den_ne_zero y hy)]
  exact_mod_cast Iff.rfl

theorem Ratio.isZero_iff (x : Ratio) (hx : 0 < x.den) : x.isZero = true ↔ rat x = 0 := by
  simp only [Ratio.isZero, decide_eq_true_eq, rat, div_eq_zero_iff, rat_den_ne_zero x hx, or_false]
  exact_mod_cast Iff.rfl

/-- `Ratio.scale` divides by a power of two. -/
theorem rat_scale (x : Ratio) (k : Int) : rat (x.scale k) = rat x / 2 ^ k := by
  rw [Ratio.scale, rat_mul, rat_pow2, zpow_neg, div_eq_mul_inv]

theorem Ratio.scale_den_pos (x : Ratio) (k : Int) (hx : 0 < x.den) : 0 < (x.scale k).den :=
    Ratio.mul_den_pos _ _ hx (pow2_den_pos _)

theorem Ratio.num_pos_iff (x : Ratio) (hx : 0 < x.den) : 0 < x.num ↔ 0 < rat x := by
  unfold rat
  rw [div_pos_iff_of_pos_right (by exact_mod_cast hx)]
  exact_mod_cast Iff.rfl

theorem Ratio.num_neg_iff (x : Ratio) (hx : 0 < x.den) : x.num < 0 ↔ rat x < 0 := by
  unfold rat
  rw [div_neg_iff]
  have : (0:ℚ) < x.den := by exact_mod_cast hx
  constructor
  · intro h; right; exact ⟨by exact_mod_cast h, this⟩
  · rintro (h | h)
    · exact absurd h.2 (not_lt.2 this.le)
    · exact_mod_cast h.1

theorem Ratio.floor_eq (x : Ratio) (_ : 0 < x.den) : x.floor = ⌊rat x⌋ := by
  unfold Ratio.floor rat
  rw [Int.fdiv_eq_ediv_of_nonneg _ (by omega), Rat.floor_intCast_div_natCast]

theorem log2_bounds (n : Nat) (h : 0 < n) : 2 ^ n.log2 ≤ n ∧ n < 2 ^ (n.log2 + 1) := ⟨Nat.log2_self_le h.ne',
    Nat.lt_log2_self⟩

/-- The power of two at or below a positive rational. -/
theorem Ratio.floorLog2_bounds (x : Ratio) (hx : 0 < x.den) (hp : 0 < x.num) : (2:ℚ) ^ x.floorLog2 ≤ rat x
    ∧ rat x < 2 ^ (x.floorLog2 + 1) := by
  obtain ⟨n, hn⟩ := Int.eq_ofNat_of_zero_le hp.le
  have hn0 : 0 < n := by omega
  obtain ⟨a1, a2⟩ := log2_bounds n hn0
  obtain ⟨b1, b2⟩ := log2_bounds x.den hx
  have hd : (0:ℚ) < x.den := by exact_mod_cast hx
  have a1' : (2:ℚ) ^ (n.log2 : Int) ≤ n := by rw [zpow_natCast]; exact_mod_cast a1
  have a2' : (n:ℚ) < (2:ℚ) ^ ((n.log2 : Int) + 1) := by
    rw [show ((n.log2 : Int) + 1) = ((n.log2 + 1 : Nat) : Int) by push_cast; rfl, zpow_natCast]; exact_mod_cast a2
  have b1' : (2:ℚ) ^ (x.den.log2 : Int) ≤ x.den := by rw [zpow_natCast]; exact_mod_cast b1
  have b2' : (x.den:ℚ) < (2:ℚ) ^ ((x.den.log2 : Int) + 1) := by
    rw [show ((x.den.log2 : Int) + 1) = ((x.den.log2 + 1 : Nat) : Int) by push_cast; rfl, zpow_natCast]; exact_mod_cast b2
  have hr : rat x = n / x.den := by unfold rat; rw [hn]; simp
  have two : (0:ℚ) < 2 := by norm_num
  have up : rat x < 2 ^ ((n.log2 : Int) - x.den.log2 + 1) := by
    rw [hr, div_lt_iff₀ hd]
    calc (n:ℚ) < 2 ^ ((n.log2 : Int) + 1) := a2'
      _ = 2 ^ ((n.log2 : Int) - x.den.log2 + 1) * 2 ^ (x.den.log2 : Int) := by rw [← zpow_add₀ two.ne']; congr 1; ring
      _ ≤ _ := mul_le_mul_of_nonneg_left b1' (by positivity)
  have lo : 2 ^ ((n.log2 : Int) - x.den.log2 - 1) ≤ rat x := by
    rw [hr, le_div_iff₀ hd]
    calc (2:ℚ) ^ ((n.log2 : Int) - x.den.log2 - 1) * x.den
        ≤ 2 ^ ((n.log2 : Int) - x.den.log2 - 1) * 2 ^ ((x.den.log2 : Int) + 1) :=
        mul_le_mul_of_nonneg_left b2'.le (by positivity)
      _ = 2 ^ (n.log2 : Int) := by rw [← zpow_add₀ two.ne']; congr 1; ring
      _ ≤ n := a1'
  unfold Ratio.floorLog2
  simp only [hn, Int.natAbs_natCast]
  split
  · rename_i h
    have := (Ratio.le_iff _ _ (pow2_den_pos _) hx).1 h
    rw [rat_pow2] at this
    exact ⟨this, up⟩
  · rename_i h
    have : ¬ (rat (pow2 ((n.log2 : Int) - x.den.log2)) ≤ rat x) := fun e => h ((Ratio.le_iff _ _ (pow2_den_pos _) hx).2 e)
    rw [rat_pow2, not_le] at this
    exact ⟨lo, by rw [sub_add_cancel]; exact this⟩

theorem rat_roundAt (a : Ratio) (k : Int) : rat (roundAt a k) = (a.scale k).rne * 2 ^ k := by
  rw [roundAt, rat_mul, rat_ofInt, rat_pow2]

theorem roundAt_den_pos (a : Ratio) (k : Int) : 0 < (roundAt a k).den :=
    Ratio.mul_den_pos _ _ Nat.one_pos (pow2_den_pos _)

/-! ## The fields of a datum (46_x87_numerics R341) -/

theorem expField_mkF80 (s e sig) (he : e < 2^15) : expField (mkF80 s e sig) = e := by
  have : (mkF80 s e sig).extractLsb' 64 15 = BitVec.ofNat 15 e := by
    apply BitVec.eq_of_getLsbD_eq; intro i hi
    simp only [mkF80, BitVec.getLsbD_extractLsb', BitVec.getLsbD_append, hi, decide_true, Bool.true_and]
    rw [if_neg (by omega)]
    simp [hi]
  rw [expField, this, BitVec.toNat_ofNat, Nat.mod_eq_of_lt he]

theorem sigField_mkF80 (s e sig) (h : sig < 2^64) : sigField (mkF80 s e sig) = sig := by
  have : (mkF80 s e sig).extractLsb' 0 64 = BitVec.ofNat 64 sig := by
    apply BitVec.eq_of_getLsbD_eq; intro i hi
    simp only [mkF80, BitVec.getLsbD_extractLsb', BitVec.getLsbD_append, hi, decide_true, Bool.true_and]
    rw [if_pos (by omega)]; simp
  rw [sigField, this, BitVec.toNat_ofNat, Nat.mod_eq_of_lt h]

theorem negative_mkF80 (s e sig) : negative (mkF80 s e sig) = s := by
  unfold negative mkF80; rw [BitVec.getLsbD_append, BitVec.getLsbD_append]; simp

theorem integerBit_eq (v : F80) : v.getLsbD 63 = decide (2^63 ≤ sigField v) := by
  have : v.getLsbD 63 = (v.extractLsb' 0 64).getLsbD 63 := by simp
  rw [this, BitVec.getLsbD, Nat.testBit_eq_decide_div_mod_eq]
  have hl := (v.extractLsb' 0 64).isLt
  unfold sigField
  congr 1
  apply propext
  omega

theorem sigField_lt (v : F80) : sigField v < 2^64 := (v.extractLsb' 0 64).isLt

theorem expField_lt (v : F80) : expField v < 2^15 := (v.extractLsb' 64 15).isLt

theorem abs_value (v : F80) : |value v| = sigField v * 2 ^ (((max (expField v) 1 : Nat) : Int) - 16446) := by
  unfold value
  rw [abs_mul, abs_of_nonneg (show (0:ℚ) ≤ sigField v * 2 ^ (((max (expField v) 1 : Nat) : Int) - 16446) by positivity)]
  split <;> simp

/-! ## Powers of two, and the numbers x80 represents (46_x87_numerics R346) -/

theorem two_zpow_lt {a b : Int} (h : a < b) : (2:ℚ)^a < 2^b := zpow_lt_zpow_right₀ (by norm_num) h

theorem two_zpow_le {a b : Int} (h : a ≤ b) : (2:ℚ)^a ≤ 2^b := zpow_le_zpow_right₀ (by norm_num) h

theorem two_zpow_lt_iff {a b : Int} : (2:ℚ)^a < 2^b ↔ a < b := zpow_lt_zpow_iff_right₀ (by norm_num)

theorem two_zpow_le_iff {a b : Int} : (2:ℚ)^a ≤ 2^b ↔ a ≤ b := zpow_le_zpow_iff_right₀ (by norm_num)

theorem two_zpow_add (a b : Int) : (2:ℚ)^(a+b) = 2^a * 2^b := zpow_add₀ (by norm_num) a b

theorem two_zpow_sub (a b : Int) : (2:ℚ)^(a-b) = 2^a / 2^b := zpow_sub₀ (by norm_num) a b

theorem two_zpow_pos (a : Int) : (0:ℚ) < 2^a := by positivity

theorem cast_two_pow (k : Nat) : ((2^k : Nat) : ℚ) = 2 ^ (k : Int) := by push_cast; rw [zpow_natCast]

/-- Every finite x80 number is below `2^16384` in magnitude. Kept opaque so that nothing evaluates the power. -/
@[irreducible] def x80Top : ℚ := 2 ^ (16384 : Int)

theorem x80Top_eq : x80Top = 2 ^ (16384 : Int) := by unfold x80Top; rfl

theorem two_zpow_lt_x80Top {a : Int} (h : a < 16384) : (2:ℚ)^a < x80Top := by rw [x80Top_eq]; exact two_zpow_lt h

theorem lt_of_two_zpow_lt_x80Top {a : Int} (h : (2:ℚ)^a < x80Top) : a < 16384 := by
  rw [x80Top_eq] at h; exact two_zpow_lt_iff.1 h

/-- The magnitudes that x80 represents, with some to spare: up to 64 significant bits, no bit below the least denormal. -/
def FitsX80 (q : ℚ) : Prop := ∃ (n : Nat) (k : Int), n < 2^64 ∧ -16445 ≤ k ∧ q = n * 2 ^ k ∧ q < x80Top

/-- A natural number times a power of two, counted in units of a lower one. -/
theorem cast_shifted {n : Nat} {k j : Int} (h : j ≤ k) : ((n * 2^(k - j).toNat : Nat) : ℚ) = n * 2^k / 2^j := by
  have e : (((k - j).toNat : Nat) : Int) = k - j := Int.toNat_of_nonneg (by omega)
  rw [Nat.cast_mul, cast_two_pow, e, two_zpow_sub, mul_div_assoc]

/-- What `encX80` gives for a magnitude that x80 represents: the datum of that sign and value,
    no pseudo-denormal (46_x87_numerics R346). -/
theorem encX80_encodes (s : Bool) (v : Ratio) (hd : 0 < v.den) (h : FitsX80 (rat v)) : Encodes s (some (rat v))
    (encX80 s v) := by
  obtain ⟨n, k, hn, hk, hv, hlt⟩ := h
  have h0 : 0 ≤ rat v := by rw [hv]; positivity
  unfold encX80
  split
  · rename_i hz
    rw [Ratio.isZero_iff v hd] at hz
    unfold zeroF
    have hj : (mkF80 s 0 0).getLsbD 63 = false := by
      rw [integerBit_eq, sigField_mkF80 _ _ _ (by norm_num)]; decide
    refine ⟨by simp [isFinite, expField_mkF80], fun _ => hj, negative_mkF80 _ _ _, ?_⟩
    rw [abs_value, sigField_mkF80 _ _ _ (by norm_num), hz]; simp
  · rename_i hz
    rw [Ratio.isZero_iff v hd] at hz
    have hpos : 0 < rat v := lt_of_le_of_ne h0 (Ne.symm hz)
    split
    · rename_i hs
      rw [Ratio.lt_iff _ _ hd (pow2_den_pos _), rat_pow2] at hs
      have hfl : (v.scale (-16445)).floor = ((n * 2^(k - (-16445)).toNat : Nat) : Int) := by
        rw [Ratio.floor_eq _ (Ratio.scale_den_pos _ _ hd), rat_scale, hv, ← cast_shifted hk, Int.floor_natCast]
      set M := n * 2^(k - (-16445)).toNat with hM
      have hMv : (M : ℚ) = rat v / 2^(-16445 : Int) := by rw [hv, hM, cast_shifted hk]
      have hMl : M < 2^63 := by
        have : (M : ℚ) < 2 ^ (63 : Int) := by
          rw [hMv, div_lt_iff₀ (two_zpow_pos _), ← two_zpow_add]; exact hs
        have : (M : ℚ) < ((2^63 : Nat) : ℚ) := by rw [cast_two_pow]; exact this
        exact_mod_cast this
      rw [hfl, Int.toNat_natCast]
      have hj : (mkF80 s 0 M).getLsbD 63 = false := by
        rw [integerBit_eq, sigField_mkF80 _ _ _ (by omega)]; simp; omega
      refine ⟨by simp [isFinite, expField_mkF80], fun _ => hj, negative_mkF80 _ _ _, ?_⟩
      rw [abs_value, sigField_mkF80 _ _ _ (by omega), expField_mkF80 _ _ _ (by norm_num), hMv]
      norm_num
    · rename_i hs
      rw [Ratio.lt_iff _ _ hd (pow2_den_pos _), rat_pow2, not_lt] at hs
      obtain ⟨l1, l2⟩ := Ratio.floorLog2_bounds v hd ((Ratio.num_pos_iff v hd).2 hpos)
      set e := v.floorLog2
      have he1 : -16382 ≤ e := by
        have := two_zpow_lt_iff.1 (lt_of_le_of_lt hs l2); omega
      have he2 : e ≤ 16383 := by
        have := lt_of_two_zpow_lt_x80Top (lt_of_le_of_lt l1 hlt); omega
      have hke : e - 63 ≤ k := by
        by_contra hc
        have : (2:ℚ)^e ≤ n * 2^k := by rw [← hv]; exact l1
        have h2 : (n:ℚ) < 2^(64:Int) := by rw [show (64:Int) = ((64:Nat):Int) from rfl, ← cast_two_pow]; exact_mod_cast hn
        have h3 : (n:ℚ) * 2^k < 2^(64:Int) * 2^k := mul_lt_mul_of_pos_right h2 (two_zpow_pos _)
        rw [← two_zpow_add] at h3
        have := two_zpow_lt_iff.1 (lt_of_le_of_lt this h3)
        omega
      have hfl : (v.scale (e - 63)).floor = ((n * 2^(k - (e-63)).toNat : Nat) : Int) := by
        rw [Ratio.floor_eq _ (Ratio.scale_den_pos _ _ hd), rat_scale, hv, ← cast_shifted hke, Int.floor_natCast]
      set M := n * 2^(k - (e-63)).toNat with hM
      have hMv : (M : ℚ) = rat v / 2^(e-63) := by rw [hv, hM, cast_shifted hke]
      have hMl : M < 2^64 := by
        have : (M : ℚ) < 2 ^ (64 : Int) := by
          rw [hMv, div_lt_iff₀ (two_zpow_pos _), ← two_zpow_add, show 64 + (e - 63) = e + 1 by ring]; exact l2
        have : (M : ℚ) < ((2^64 : Nat) : ℚ) := by rw [cast_two_pow]; exact this
        exact_mod_cast this
      have hMg : 2^63 ≤ M := by
        have : 2 ^ (63 : Int) ≤ (M : ℚ) := by
          rw [hMv, le_div_iff₀ (two_zpow_pos _), ← two_zpow_add, show 63 + (e - 63) = e by ring]; exact l1
        have : ((2^63 : Nat) : ℚ) ≤ M := by rw [cast_two_pow]; exact this
        exact_mod_cast this
      simp only [hfl, Int.toNat_natCast]
      obtain ⟨E, hE⟩ := Int.eq_ofNat_of_zero_le (show 0 ≤ e + 16383 by omega)
      rw [hE, Int.toNat_natCast]
      have hEl : E < 32767 := by omega
      have hj : (mkF80 s E M).getLsbD 63 = true := by rw [integerBit_eq, sigField_mkF80 _ _ _ hMl]; simpa using hMg
      refine ⟨?_, fun hz => ?_, negative_mkF80 _ _ _, ?_⟩
      · simp only [isFinite, expField_mkF80 _ E _ (show E < 2^15 by omega), hj, decide_eq_true_eq]
        exact .inr ⟨hEl, trivial⟩
      · rw [expField_mkF80 _ E _ (by omega)] at hz; omega
      · rw [abs_value, sigField_mkF80 _ _ _ hMl, expField_mkF80 _ E _ (by omega), hMv]
        rw [show (((max E 1 : Nat) : Int) - 16446) = e - 63 by omega]
        field_simp

theorem infF_eq_infinityOf (s : Bool) : infF s = infinityOf s := by cases s <;> decide

theorem zeroF_eq_zeroOf (s : Bool) : zeroF s = zeroOf s := by cases s <;> decide

/-! ## Classes by the bits (46_x87_numerics R342) -/

theorem classOf_core (e g B : Nat) (j q : Bool) (hj : j = decide (B ≤ g)) (h2 : e < 32768) :
  (if e = 0 then (if g = 0 then FClass.zero else .denormal)
  else if !j then .unsupported
  else if e < 0x7FFF then .normal
  else if g = B then .infinity
  else if q then .quietNaN
  else .signalingNaN)
  = if decide (e = 0 ∧ g = 0) then .zero
    else if decide (e = 0 ∧ g ≠ 0) then .denormal
    else if decide (1 ≤ e ∧ j = false) then .unsupported
    else if decide (e = 0 ∨ (e < 0x7FFF ∧ j = true)) then .normal
    else if decide (e = 0x7FFF ∧ g = B) then .infinity
    else if (decide (e = 0x7FFF ∧ B < g) && !q) then .signalingNaN
    else .quietNaN := by
  subst hj
  by_cases a1 : e = 0
  · by_cases a2 : g = 0 <;> simp [a1, a2]
  · by_cases a2 : B ≤ g
    · by_cases a3 : e < 32767
      · have a0 : 1 ≤ e := by omega
        simp [a1, a2, a3, a0]
      · have : e = 32767 := by omega
        subst this
        by_cases a4 : g = B
        · simp [a4]
        · have : B < g := by omega
          cases q <;> simp [a2, a4, this]
    · have a0 : 1 ≤ e := by omega
      simp [a1, a2, a0]

/-- `classOf`, by the predicates of the statements. -/
theorem classOf_eq (v : F80) :
    classOf v = if isZero v then .zero
      else if isDenormal v then .denormal
      else if isUnsupported v then .unsupported
      else if isFinite v then .normal
      else if isInfinite v then .infinity
      else if isSignaling v then .signalingNaN
      else .quietNaN :=
  classOf_core (expField v) (sigField v) (2^63) (v.getLsbD 63) (v.getLsbD 62) (integerBit_eq v) (expField_lt v)

theorem classOf_denormal (v : F80) : decide (classOf v = .denormal) = isDenormal v := by
  rw [classOf_eq]
  have : isZero v = true → isDenormal v = false := by
    simp only [isZero, isDenormal, decide_eq_true_eq, decide_eq_false_iff_not]; tauto
  by_cases a : isZero v = true
  · simp [a, this a]
  · by_cases b : isDenormal v = true <;> simp [a, b]
    split <;> [skip; split <;> [skip; split <;> [skip; split]]] <;> simp

/-- A datum is unsupported, finite, infinite or a NaN, and one of these only. -/
theorem kind_of_datum (v : F80) : (isUnsupported v = true ∧ isFinite v = false ∧ isInfinite v = false ∧ isNaN v = false)
  ∨ (isUnsupported v = false ∧ isFinite v = true ∧ isInfinite v = false ∧ isNaN v = false)
  ∨ (isUnsupported v = false ∧ isFinite v = false ∧ isInfinite v = true ∧ isNaN v = false)
  ∨ (isUnsupported v = false ∧ isFinite v = false ∧ isInfinite v = false ∧ isNaN v = true) := by
  have hj := integerBit_eq v
  have h1 := sigField_lt v
  have h2 := expField_lt v
  simp only [isUnsupported, isFinite, isInfinite, isNaN]
  generalize expField v = e at *
  generalize sigField v = g at *
  generalize v.getLsbD 63 = j at *
  subst hj
  simp only [decide_eq_true_eq, decide_eq_false_iff_not]
  omega

theorem classOf_unsupported (v : F80) : classOf v = .unsupported ↔ isUnsupported v = true := by
  have := kind_of_datum v
  have hz : isZero v = true → isFinite v = true := by simp [isZero, isFinite]; intro a b; exact .inl a
  have hd : isDenormal v = true → isFinite v = true := by simp [isDenormal, isFinite]; intro a b; exact .inl a
  rw [classOf_eq]
  rcases this with h | h | h | h <;>
    (split <;> [skip; split <;> [skip; split <;> [skip; split <;> [skip; split <;> [skip; split]]]]]) <;> simp_all

theorem classOf_isNaN (v : F80) : (classOf v).isNaN = isNaN v := by
  have := kind_of_datum v
  have hz : isZero v = true → isFinite v = true := by simp [isZero, isFinite]; intro a b; exact .inl a
  have hd : isDenormal v = true → isFinite v = true := by simp [isDenormal, isFinite]; intro a b; exact .inl a
  rw [classOf_eq]
  rcases this with h | h | h | h <;>
    (split <;> [skip; split <;> [skip; split <;> [skip; split <;> [skip; split <;> [skip; split]]]]]) <;>
    simp_all [FClass.isNaN]

theorem classOf_infinity (v : F80) : classOf v = .infinity ↔ isInfinite v = true := by
  have := kind_of_datum v
  have hz : isZero v = true → isFinite v = true := by simp [isZero, isFinite]; intro a b; exact .inl a
  have hd : isDenormal v = true → isFinite v = true := by simp [isDenormal, isFinite]; intro a b; exact .inl a
  rw [classOf_eq]
  rcases this with h | h | h | h <;>
    (split <;> [skip; split <;> [skip; split <;> [skip; split <;> [skip; split <;> [skip; split]]]]]) <;> simp_all

theorem classOf_zero (v : F80) : classOf v = .zero ↔ isZero v = true := by
  rw [classOf_eq]
  split <;> [skip; split <;> [skip; split <;> [skip; split <;> [skip; split <;> [skip; split]]]]] <;> simp_all

theorem classOf_signaling (v : F80) : classOf v = .signalingNaN ↔ isSignaling v = true := by
  have := kind_of_datum v
  have hz : isZero v = true → isFinite v = true := by simp [isZero, isFinite]; intro a b; exact .inl a
  have hd : isDenormal v = true → isFinite v = true := by simp [isDenormal, isFinite]; intro a b; exact .inl a
  have hs : isSignaling v = true → isNaN v = true := by simp [isSignaling]; intro a b; exact a
  rw [classOf_eq]
  rcases this with h | h | h | h <;>
    (split <;> [skip; split <;> [skip; split <;> [skip; split <;> [skip; split <;> [skip; split]]]]]) <;> simp_all

/-! ## The value of a finite datum -/

theorem valOf_den_pos (v : F80) : 0 < (valOf v).den := Ratio.mul_den_pos _ _ Nat.one_pos (pow2_den_pos _)

/-- `valOf` stands for the value of the datum. -/
theorem rat_valOf (v : F80) : rat (valOf v) = value v := by
  unfold valOf value
  simp only []
  rw [rat_mul, rat_ofInt, rat_pow2, show signOf v = negative v from rfl, show sigOf v = sigField v from rfl,
      show expOf v = expField v from rfl]
  split <;> push_cast <;> ring

theorem value_eq_zero (v : F80) : value v = 0 ↔ sigField v = 0 := by
  rw [← abs_eq_zero, abs_value, mul_eq_zero]
  have := (two_zpow_pos (((max (expField v) 1 : Nat) : Int) - 16446)).ne'
  simp only [this, or_false]; exact_mod_cast Iff.rfl

theorem value_eq_zero_of_finite (v : F80) (h : isFinite v = true) : value v = 0 ↔ isZero v = true := by
  rw [value_eq_zero]
  have hj := integerBit_eq v
  simp only [isZero, isFinite, decide_eq_true_eq] at *
  generalize sigField v = g at *
  rw [hj] at h
  constructor
  · intro e; subst e; simp at h; exact ⟨h, rfl⟩
  · exact fun e => e.2

theorem negative_of_value_neg (v : F80) (h : value v < 0) : negative v = true := by
  by_contra hc
  have : 0 ≤ value v := by unfold value; rw [if_neg hc]; positivity
  linarith

theorem nonnegative_of_value_pos (v : F80) (h : 0 < value v) : negative v = false := by
  by_contra hc
  have : value v ≤ 0 := by
    unfold value; rw [if_pos (by simpa using hc)]
    have : (0:ℚ) ≤ sigField v * 2 ^ (((max (expField v) 1 : Nat) : Int) - 16446) := by positivity
    linarith
  linarith

theorem eq_infinityOf (v : F80) (h : isInfinite v = true) : v = infinityOf (negative v) := by
  simp only [isInfinite, decide_eq_true_eq] at h
  apply BitVec.eq_of_toNat_eq
  have e1 : expField v = v.toNat / 2^64 % 2^15 := by simp [expField, BitVec.extractLsb'_toNat, Nat.shiftRight_eq_div_pow]
  have e2 : sigField v = v.toNat % 2^64 := by simp [sigField, BitVec.extractLsb'_toNat]
  have e3 : negative v = decide (v.toNat / 2^79 % 2 = 1) := by rw [negative, BitVec.getLsbD,
      Nat.testBit_eq_decide_div_mod_eq]
  have hl := v.isLt
  by_cases hn : v.toNat / 2^79 % 2 = 1
  · simp only [e3, hn, infinityOf, decide_true, if_true]; simp; omega
  · simp only [e3, hn, infinityOf, decide_false]; simp; omega

/-! ## NaNs and denormal operands (46_x87_numerics R354, R356, R362) -/

theorem denFlag_eq (a b : Operand) : denFlag a b = denormalFlag a b := by
  unfold denFlag denormalFlag denormalOp
  cases a.denormal <;> cases b.denormal <;> rfl

theorem quiet_eq (v : F80) : quiet v = v ||| 1 <<< 62 := rfl

/-- `NaNResult(a, b)`. -/
theorem nanResult_eq (a b : F80) : nanResult a b = nanOf a b := by
  unfold nanResult nanOf quieted
  simp only [classOf_isNaN, classOf_signaling, quiet_eq, show sigOf = sigField from rfl, show signOf = negative from rfl]
  refine Prod.ext ?_ ?_
  · simp only []
    congr 1
    cases isNaN a <;> cases isNaN b <;> simp
    by_cases h : sigField b < sigField a
    · simp [h]; intro e; omega
    · by_cases h' : sigField a < sigField b
      · simp [h, h']; intro e; omega
      · simp [show sigField a = sigField b by omega]
  · simp only []
    cases isSignaling a <;> cases isSignaling b <;> rfl

theorem nanResult1_eq (a : F80) : nanResult1 a = quieted a (isSignaling a) := by
  unfold nanResult1 quieted
  simp only [classOf_signaling, quiet_eq]
  cases isSignaling a <;> rfl

theorem preCheck_of_numbers {a b : Operand} (ha : isFinite a.x = true ∨ isInfinite a.x = true)
    (hb : isFinite b.x = true ∨ isInfinite b.x = true) : preCheck a b = none := by
  unfold preCheck
  have ka := kind_of_datum a.x; have kb := kind_of_datum b.x
  simp only [classOf_unsupported, classOf_isNaN]
  rw [if_neg (by rcases ka with h|h|h|h <;> rcases kb with h'|h'|h'|h' <;> simp_all),
      if_neg (by rcases ka with h|h|h|h <;> rcases kb with h'|h'|h'|h' <;> simp_all)]

/-- A two-operand operation that checks its operands first, and whose core gives what `rest` says on numbers. -/
theorem numericOp_of_core {f : Operand → Operand → F80 × ExcFlags} {g : Operand → Operand → F80 × ExcFlags} {rest}
    (e : ∀ a b, f a b = match preCheck a b with | some r => r | none => g a b)
   (h : ∀ a b, (isFinite a.x = true ∨ isInfinite a.x = true) → (isFinite b.x = true ∨ isInfinite b.x = true) →
      rest a b (g a b)) : NumericOp f rest := by
  intro a b
  refine ⟨fun hu => ?_, fun h1 h2 hn => ?_, fun ha hb => ?_⟩
  · rw [e]; unfold preCheck; simp only [classOf_unsupported]; rw [if_pos hu]; rfl
  · rw [e]; unfold preCheck; simp only [classOf_unsupported, classOf_isNaN]; rw [if_neg (by simp [h1, h2]),
      if_pos (by simpa using hn), nanResult_eq]
  · rw [e, preCheck_of_numbers ha hb]; exact h a b ha hb

end Sys2Proof.Machine
end

