-- ==== Sys2Proof/Laws/PerInstr.lean ====
section
/-! SUPPORT. The family `PrefixByte`: what the first byte of an instruction's encoding is, one lemma for each
constructor of `Instr`. The decoder tells the seven prefix rows from the others by that byte (30_encoding R123). -/

namespace Sys2Proof.Laws.PrefixByte

/-- An instruction has a first byte, and it is one of the seven prefix bytes exactly for the seven prefix rows. -/
def Statement (i : Instr) : Prop :=
  ∃ b bs, encode i = b :: bs ∧ (Decode.pfxOf b).isSome = decide (i.shape = .wrapper)

theorem addRm8R8 (d : Rm8) (r : R8) : Statement (.addRm8R8 d r) := ⟨_, _, rfl, rfl⟩
theorem addRm16R16 (d : Rm16) (r : R16) : Statement (.addRm16R16 d r) := ⟨_, _, rfl, rfl⟩
theorem addR8Rm8 (r : R8) (x : Rm8) : Statement (.addR8Rm8 r x) := ⟨_, _, rfl, rfl⟩
theorem addR16Rm16 (r : R16) (x : Rm16) : Statement (.addR16Rm16 r x) := ⟨_, _, rfl, rfl⟩
theorem addAlImm8 (imm : Byte) : Statement (.addAlImm8 imm) := ⟨_, _, rfl, rfl⟩
theorem addAxImm16 (imm : Word) : Statement (.addAxImm16 imm) := ⟨_, _, rfl, rfl⟩
theorem orRm8R8 (d : Rm8) (r : R8) : Statement (.orRm8R8 d r) := ⟨_, _, rfl, rfl⟩
theorem orRm16R16 (d : Rm16) (r : R16) : Statement (.orRm16R16 d r) := ⟨_, _, rfl, rfl⟩
theorem orR8Rm8 (r : R8) (x : Rm8) : Statement (.orR8Rm8 r x) := ⟨_, _, rfl, rfl⟩
theorem orR16Rm16 (r : R16) (x : Rm16) : Statement (.orR16Rm16 r x) := ⟨_, _, rfl, rfl⟩
theorem orAlImm8 (imm : Byte) : Statement (.orAlImm8 imm) := ⟨_, _, rfl, rfl⟩
theorem orAxImm16 (imm : Word) : Statement (.orAxImm16 imm) := ⟨_, _, rfl, rfl⟩
theorem adcRm8R8 (d : Rm8) (r : R8) : Statement (.adcRm8R8 d r) := ⟨_, _, rfl, rfl⟩
theorem adcRm16R16 (d : Rm16) (r : R16) : Statement (.adcRm16R16 d r) := ⟨_, _, rfl, rfl⟩
theorem adcR8Rm8 (r : R8) (x : Rm8) : Statement (.adcR8Rm8 r x) := ⟨_, _, rfl, rfl⟩
theorem adcR16Rm16 (r : R16) (x : Rm16) : Statement (.adcR16Rm16 r x) := ⟨_, _, rfl, rfl⟩
theorem adcAlImm8 (imm : Byte) : Statement (.adcAlImm8 imm) := ⟨_, _, rfl, rfl⟩
theorem adcAxImm16 (imm : Word) : Statement (.adcAxImm16 imm) := ⟨_, _, rfl, rfl⟩
theorem sbbRm8R8 (d : Rm8) (r : R8) : Statement (.sbbRm8R8 d r) := ⟨_, _, rfl, rfl⟩
theorem sbbRm16R16 (d : Rm16) (r : R16) : Statement (.sbbRm16R16 d r) := ⟨_, _, rfl, rfl⟩
theorem sbbR8Rm8 (r : R8) (x : Rm8) : Statement (.sbbR8Rm8 r x) := ⟨_, _, rfl, rfl⟩
theorem sbbR16Rm16 (r : R16) (x : Rm16) : Statement (.sbbR16Rm16 r x) := ⟨_, _, rfl, rfl⟩
theorem sbbAlImm8 (imm : Byte) : Statement (.sbbAlImm8 imm) := ⟨_, _, rfl, rfl⟩
theorem sbbAxImm16 (imm : Word) : Statement (.sbbAxImm16 imm) := ⟨_, _, rfl, rfl⟩
theorem andRm8R8 (d : Rm8) (r : R8) : Statement (.andRm8R8 d r) := ⟨_, _, rfl, rfl⟩
theorem andRm16R16 (d : Rm16) (r : R16) : Statement (.andRm16R16 d r) := ⟨_, _, rfl, rfl⟩
theorem andR8Rm8 (r : R8) (x : Rm8) : Statement (.andR8Rm8 r x) := ⟨_, _, rfl, rfl⟩
theorem andR16Rm16 (r : R16) (x : Rm16) : Statement (.andR16Rm16 r x) := ⟨_, _, rfl, rfl⟩
theorem andAlImm8 (imm : Byte) : Statement (.andAlImm8 imm) := ⟨_, _, rfl, rfl⟩
theorem andAxImm16 (imm : Word) : Statement (.andAxImm16 imm) := ⟨_, _, rfl, rfl⟩
theorem subRm8R8 (d : Rm8) (r : R8) : Statement (.subRm8R8 d r) := ⟨_, _, rfl, rfl⟩
theorem subRm16R16 (d : Rm16) (r : R16) : Statement (.subRm16R16 d r) := ⟨_, _, rfl, rfl⟩
theorem subR8Rm8 (r : R8) (x : Rm8) : Statement (.subR8Rm8 r x) := ⟨_, _, rfl, rfl⟩
theorem subR16Rm16 (r : R16) (x : Rm16) : Statement (.subR16Rm16 r x) := ⟨_, _, rfl, rfl⟩
theorem subAlImm8 (imm : Byte) : Statement (.subAlImm8 imm) := ⟨_, _, rfl, rfl⟩
theorem subAxImm16 (imm : Word) : Statement (.subAxImm16 imm) := ⟨_, _, rfl, rfl⟩
theorem xorRm8R8 (d : Rm8) (r : R8) : Statement (.xorRm8R8 d r) := ⟨_, _, rfl, rfl⟩
theorem xorRm16R16 (d : Rm16) (r : R16) : Statement (.xorRm16R16 d r) := ⟨_, _, rfl, rfl⟩
theorem xorR8Rm8 (r : R8) (x : Rm8) : Statement (.xorR8Rm8 r x) := ⟨_, _, rfl, rfl⟩
theorem xorR16Rm16 (r : R16) (x : Rm16) : Statement (.xorR16Rm16 r x) := ⟨_, _, rfl, rfl⟩
theorem xorAlImm8 (imm : Byte) : Statement (.xorAlImm8 imm) := ⟨_, _, rfl, rfl⟩
theorem xorAxImm16 (imm : Word) : Statement (.xorAxImm16 imm) := ⟨_, _, rfl, rfl⟩
theorem cmpRm8R8 (d : Rm8) (r : R8) : Statement (.cmpRm8R8 d r) := ⟨_, _, rfl, rfl⟩
theorem cmpRm16R16 (d : Rm16) (r : R16) : Statement (.cmpRm16R16 d r) := ⟨_, _, rfl, rfl⟩
theorem cmpR8Rm8 (r : R8) (x : Rm8) : Statement (.cmpR8Rm8 r x) := ⟨_, _, rfl, rfl⟩
theorem cmpR16Rm16 (r : R16) (x : Rm16) : Statement (.cmpR16Rm16 r x) := ⟨_, _, rfl, rfl⟩
theorem cmpAlImm8 (imm : Byte) : Statement (.cmpAlImm8 imm) := ⟨_, _, rfl, rfl⟩
theorem cmpAxImm16 (imm : Word) : Statement (.cmpAxImm16 imm) := ⟨_, _, rfl, rfl⟩
theorem pushEs : Statement (.pushEs) := ⟨_, _, rfl, rfl⟩
theorem pushCs : Statement (.pushCs) := ⟨_, _, rfl, rfl⟩
theorem pushSs : Statement (.pushSs) := ⟨_, _, rfl, rfl⟩
theorem pushDs : Statement (.pushDs) := ⟨_, _, rfl, rfl⟩
theorem popEs : Statement (.popEs) := ⟨_, _, rfl, rfl⟩
theorem popSs : Statement (.popSs) := ⟨_, _, rfl, rfl⟩
theorem popDs : Statement (.popDs) := ⟨_, _, rfl, rfl⟩
theorem esPrefix (i : Instr) : Statement (.esPrefix i) := ⟨_, _, rfl, rfl⟩
theorem csPrefix (i : Instr) : Statement (.csPrefix i) := ⟨_, _, rfl, rfl⟩
theorem ssPrefix (i : Instr) : Statement (.ssPrefix i) := ⟨_, _, rfl, rfl⟩
theorem dsPrefix (i : Instr) : Statement (.dsPrefix i) := ⟨_, _, rfl, rfl⟩
theorem incR16 (r : R16) : Statement (.incR16 r) := by cases r <;> exact ⟨_, _, rfl, rfl⟩
theorem decR16 (r : R16) : Statement (.decR16 r) := by cases r <;> exact ⟨_, _, rfl, rfl⟩
theorem pushR16 (r : R16) : Statement (.pushR16 r) := by cases r <;> exact ⟨_, _, rfl, rfl⟩
theorem popR16 (r : R16) : Statement (.popR16 r) := by cases r <;> exact ⟨_, _, rfl, rfl⟩
theorem pusha : Statement (.pusha) := ⟨_, _, rfl, rfl⟩
theorem popa : Statement (.popa) := ⟨_, _, rfl, rfl⟩
theorem boundR16M1616 (r : R16) (m : Mem) : Statement (.boundR16M1616 r m) := ⟨_, _, rfl, rfl⟩
theorem pushImm16 (imm : Word) : Statement (.pushImm16 imm) := ⟨_, _, rfl, rfl⟩
theorem imulR16Rm16Imm16 (r : R16) (x : Rm16) (imm : Word) : Statement (.imulR16Rm16Imm16 r x imm) := ⟨_, _, rfl, rfl⟩
theorem pushImm8 (imm : Byte) : Statement (.pushImm8 imm) := ⟨_, _, rfl, rfl⟩
theorem imulR16Rm16Imm8 (r : R16) (x : Rm16) (imm : Byte) : Statement (.imulR16Rm16Imm8 r x imm) := ⟨_, _, rfl, rfl⟩
theorem joRel8 (rel : Byte) : Statement (.joRel8 rel) := ⟨_, _, rfl, rfl⟩
theorem jnoRel8 (rel : Byte) : Statement (.jnoRel8 rel) := ⟨_, _, rfl, rfl⟩
theorem jbRel8 (rel : Byte) : Statement (.jbRel8 rel) := ⟨_, _, rfl, rfl⟩
theorem jnbRel8 (rel : Byte) : Statement (.jnbRel8 rel) := ⟨_, _, rfl, rfl⟩
theorem jzRel8 (rel : Byte) : Statement (.jzRel8 rel) := ⟨_, _, rfl, rfl⟩
theorem jnzRel8 (rel : Byte) : Statement (.jnzRel8 rel) := ⟨_, _, rfl, rfl⟩
theorem jbeRel8 (rel : Byte) : Statement (.jbeRel8 rel) := ⟨_, _, rfl, rfl⟩
theorem jnbeRel8 (rel : Byte) : Statement (.jnbeRel8 rel) := ⟨_, _, rfl, rfl⟩
theorem jsRel8 (rel : Byte) : Statement (.jsRel8 rel) := ⟨_, _, rfl, rfl⟩
theorem jnsRel8 (rel : Byte) : Statement (.jnsRel8 rel) := ⟨_, _, rfl, rfl⟩
theorem jpRel8 (rel : Byte) : Statement (.jpRel8 rel) := ⟨_, _, rfl, rfl⟩
theorem jnpRel8 (rel : Byte) : Statement (.jnpRel8 rel) := ⟨_, _, rfl, rfl⟩
theorem jlRel8 (rel : Byte) : Statement (.jlRel8 rel) := ⟨_, _, rfl, rfl⟩
theorem jnlRel8 (rel : Byte) : Statement (.jnlRel8 rel) := ⟨_, _, rfl, rfl⟩
theorem jleRel8 (rel : Byte) : Statement (.jleRel8 rel) := ⟨_, _, rfl, rfl⟩
theorem jnleRel8 (rel : Byte) : Statement (.jnleRel8 rel) := ⟨_, _, rfl, rfl⟩
theorem addRm8Imm8 (d : Rm8) (imm : Byte) : Statement (.addRm8Imm8 d imm) := ⟨_, _, rfl, rfl⟩
theorem orRm8Imm8 (d : Rm8) (imm : Byte) : Statement (.orRm8Imm8 d imm) := ⟨_, _, rfl, rfl⟩
theorem adcRm8Imm8 (d : Rm8) (imm : Byte) : Statement (.adcRm8Imm8 d imm) := ⟨_, _, rfl, rfl⟩
theorem sbbRm8Imm8 (d : Rm8) (imm : Byte) : Statement (.sbbRm8Imm8 d imm) := ⟨_, _, rfl, rfl⟩
theorem andRm8Imm8 (d : Rm8) (imm : Byte) : Statement (.andRm8Imm8 d imm) := ⟨_, _, rfl, rfl⟩
theorem subRm8Imm8 (d : Rm8) (imm : Byte) : Statement (.subRm8Imm8 d imm) := ⟨_, _, rfl, rfl⟩
theorem xorRm8Imm8 (d : Rm8) (imm : Byte) : Statement (.xorRm8Imm8 d imm) := ⟨_, _, rfl, rfl⟩
theorem cmpRm8Imm8 (d : Rm8) (imm : Byte) : Statement (.cmpRm8Imm8 d imm) := ⟨_, _, rfl, rfl⟩
theorem addRm16Imm16 (d : Rm16) (imm : Word) : Statement (.addRm16Imm16 d imm) := ⟨_, _, rfl, rfl⟩
theorem orRm16Imm16 (d : Rm16) (imm : Word) : Statement (.orRm16Imm16 d imm) := ⟨_, _, rfl, rfl⟩
theorem adcRm16Imm16 (d : Rm16) (imm : Word) : Statement (.adcRm16Imm16 d imm) := ⟨_, _, rfl, rfl⟩
theorem sbbRm16Imm16 (d : Rm16) (imm : Word) : Statement (.sbbRm16Imm16 d imm) := ⟨_, _, rfl, rfl⟩
theorem andRm16Imm16 (d : Rm16) (imm : Word) : Statement (.andRm16Imm16 d imm) := ⟨_, _, rfl, rfl⟩
theorem subRm16Imm16 (d : Rm16) (imm : Word) : Statement (.subRm16Imm16 d imm) := ⟨_, _, rfl, rfl⟩
theorem xorRm16Imm16 (d : Rm16) (imm : Word) : Statement (.xorRm16Imm16 d imm) := ⟨_, _, rfl, rfl⟩
theorem cmpRm16Imm16 (d : Rm16) (imm : Word) : Statement (.cmpRm16Imm16 d imm) := ⟨_, _, rfl, rfl⟩
theorem addRm16Imm8 (d : Rm16) (imm : Byte) : Statement (.addRm16Imm8 d imm) := ⟨_, _, rfl, rfl⟩
theorem orRm16Imm8 (d : Rm16) (imm : Byte) : Statement (.orRm16Imm8 d imm) := ⟨_, _, rfl, rfl⟩
theorem adcRm16Imm8 (d : Rm16) (imm : Byte) : Statement (.adcRm16Imm8 d imm) := ⟨_, _, rfl, rfl⟩
theorem sbbRm16Imm8 (d : Rm16) (imm : Byte) : Statement (.sbbRm16Imm8 d imm) := ⟨_, _, rfl, rfl⟩
theorem andRm16Imm8 (d : Rm16) (imm : Byte) : Statement (.andRm16Imm8 d imm) := ⟨_, _, rfl, rfl⟩
theorem subRm16Imm8 (d : Rm16) (imm : Byte) : Statement (.subRm16Imm8 d imm) := ⟨_, _, rfl, rfl⟩
theorem xorRm16Imm8 (d : Rm16) (imm : Byte) : Statement (.xorRm16Imm8 d imm) := ⟨_, _, rfl, rfl⟩
theorem cmpRm16Imm8 (d : Rm16) (imm : Byte) : Statement (.cmpRm16Imm8 d imm) := ⟨_, _, rfl, rfl⟩
theorem testRm8R8 (d : Rm8) (r : R8) : Statement (.testRm8R8 d r) := ⟨_, _, rfl, rfl⟩
theorem testRm16R16 (d : Rm16) (r : R16) : Statement (.testRm16R16 d r) := ⟨_, _, rfl, rfl⟩
theorem xchgR8Rm8 (r : R8) (x : Rm8) : Statement (.xchgR8Rm8 r x) := ⟨_, _, rfl, rfl⟩
theorem xchgR16Rm16 (r : R16) (x : Rm16) : Statement (.xchgR16Rm16 r x) := ⟨_, _, rfl, rfl⟩
theorem movRm8R8 (d : Rm8) (r : R8) : Statement (.movRm8R8 d r) := ⟨_, _, rfl, rfl⟩
theorem movRm16R16 (d : Rm16) (r : R16) : Statement (.movRm16R16 d r) := ⟨_, _, rfl, rfl⟩
theorem movR8Rm8 (r : R8) (x : Rm8) : Statement (.movR8Rm8 r x) := ⟨_, _, rfl, rfl⟩
theorem movR16Rm16 (r : R16) (x : Rm16) : Statement (.movR16Rm16 r x) := ⟨_, _, rfl, rfl⟩
theorem movRm16Es (d : Rm16) : Statement (.movRm16Es d) := ⟨_, _, rfl, rfl⟩
theorem movRm16Cs (d : Rm16) : Statement (.movRm16Cs d) := ⟨_, _, rfl, rfl⟩
theorem movRm16Ss (d : Rm16) : Statement (.movRm16Ss d) := ⟨_, _, rfl, rfl⟩
theorem movRm16Ds (d : Rm16) : Statement (.movRm16Ds d) := ⟨_, _, rfl, rfl⟩
theorem leaR16M (r : R16) (m : Mem) : Statement (.leaR16M r m) := ⟨_, _, rfl, rfl⟩
theorem movEsRm16 (d : Rm16) : Statement (.movEsRm16 d) := ⟨_, _, rfl, rfl⟩
theorem movSsRm16 (d : Rm16) : Statement (.movSsRm16 d) := ⟨_, _, rfl, rfl⟩
theorem movDsRm16 (d : Rm16) : Statement (.movDsRm16 d) := ⟨_, _, rfl, rfl⟩
theorem popRm16 (d : Rm16) : Statement (.popRm16 d) := ⟨_, _, rfl, rfl⟩
theorem nop : Statement (.nop) := ⟨_, _, rfl, rfl⟩
theorem xchgAxCx : Statement (.xchgAxCx) := ⟨_, _, rfl, rfl⟩
theorem xchgAxDx : Statement (.xchgAxDx) := ⟨_, _, rfl, rfl⟩
theorem xchgAxBx : Statement (.xchgAxBx) := ⟨_, _, rfl, rfl⟩
theorem xchgAxSp : Statement (.xchgAxSp) := ⟨_, _, rfl, rfl⟩
theorem xchgAxBp : Statement (.xchgAxBp) := ⟨_, _, rfl, rfl⟩
theorem xchgAxSi : Statement (.xchgAxSi) := ⟨_, _, rfl, rfl⟩
theorem xchgAxDi : Statement (.xchgAxDi) := ⟨_, _, rfl, rfl⟩
theorem cbw : Statement (.cbw) := ⟨_, _, rfl, rfl⟩
theorem cwd : Statement (.cwd) := ⟨_, _, rfl, rfl⟩
theorem callPtr1616 (off : Word) (sel : Word) : Statement (.callPtr1616 off sel) := ⟨_, _, rfl, rfl⟩
theorem wait : Statement (.wait) := ⟨_, _, rfl, rfl⟩
theorem pushf : Statement (.pushf) := ⟨_, _, rfl, rfl⟩
theorem popf : Statement (.popf) := ⟨_, _, rfl, rfl⟩
theorem sahf : Statement (.sahf) := ⟨_, _, rfl, rfl⟩
theorem lahf : Statement (.lahf) := ⟨_, _, rfl, rfl⟩
theorem movAlMoffs8 (seg : SReg) (off : Word) : Statement (.movAlMoffs8 seg off) := ⟨_, _, rfl, rfl⟩
theorem movAxMoffs16 (seg : SReg) (off : Word) : Statement (.movAxMoffs16 seg off) := ⟨_, _, rfl, rfl⟩
theorem movMoffs8Al (seg : SReg) (off : Word) : Statement (.movMoffs8Al seg off) := ⟨_, _, rfl, rfl⟩
theorem movMoffs16Ax (seg : SReg) (off : Word) : Statement (.movMoffs16Ax seg off) := ⟨_, _, rfl, rfl⟩
theorem movsb (seg : SReg) (rep : Option Rep) : Statement (.movsb seg rep) := ⟨_, _, rfl, rfl⟩
theorem movsw (seg : SReg) (rep : Option Rep) : Statement (.movsw seg rep) := ⟨_, _, rfl, rfl⟩
theorem cmpsb (seg : SReg) (rep : Option Rep) : Statement (.cmpsb seg rep) := ⟨_, _, rfl, rfl⟩
theorem cmpsw (seg : SReg) (rep : Option Rep) : Statement (.cmpsw seg rep) := ⟨_, _, rfl, rfl⟩
theorem testAlImm8 (imm : Byte) : Statement (.testAlImm8 imm) := ⟨_, _, rfl, rfl⟩
theorem testAxImm16 (imm : Word) : Statement (.testAxImm16 imm) := ⟨_, _, rfl, rfl⟩
theorem stosb (rep : Option Rep) : Statement (.stosb rep) := ⟨_, _, rfl, rfl⟩
theorem stosw (rep : Option Rep) : Statement (.stosw rep) := ⟨_, _, rfl, rfl⟩
theorem lodsb (seg : SReg) (rep : Option Rep) : Statement (.lodsb seg rep) := ⟨_, _, rfl, rfl⟩
theorem lodsw (seg : SReg) (rep : Option Rep) : Statement (.lodsw seg rep) := ⟨_, _, rfl, rfl⟩
theorem scasb (rep : Option Rep) : Statement (.scasb rep) := ⟨_, _, rfl, rfl⟩
theorem scasw (rep : Option Rep) : Statement (.scasw rep) := ⟨_, _, rfl, rfl⟩
theorem movR8Imm8 (r : R8) (imm : Byte) : Statement (.movR8Imm8 r imm) := by cases r <;> exact ⟨_, _, rfl, rfl⟩
theorem movR16Imm16 (r : R16) (imm : Word) : Statement (.movR16Imm16 r imm) := by cases r <;> exact ⟨_, _, rfl, rfl⟩
theorem rolRm8Imm8 (d : Rm8) (imm : Byte) : Statement (.rolRm8Imm8 d imm) := ⟨_, _, rfl, rfl⟩
theorem rorRm8Imm8 (d : Rm8) (imm : Byte) : Statement (.rorRm8Imm8 d imm) := ⟨_, _, rfl, rfl⟩
theorem rclRm8Imm8 (d : Rm8) (imm : Byte) : Statement (.rclRm8Imm8 d imm) := ⟨_, _, rfl, rfl⟩
theorem rcrRm8Imm8 (d : Rm8) (imm : Byte) : Statement (.rcrRm8Imm8 d imm) := ⟨_, _, rfl, rfl⟩
theorem shlRm8Imm8 (d : Rm8) (imm : Byte) : Statement (.shlRm8Imm8 d imm) := ⟨_, _, rfl, rfl⟩
theorem shrRm8Imm8 (d : Rm8) (imm : Byte) : Statement (.shrRm8Imm8 d imm) := ⟨_, _, rfl, rfl⟩
theorem sarRm8Imm8 (d : Rm8) (imm : Byte) : Statement (.sarRm8Imm8 d imm) := ⟨_, _, rfl, rfl⟩
theorem rolRm16Imm8 (d : Rm16) (imm : Byte) : Statement (.rolRm16Imm8 d imm) := ⟨_, _, rfl, rfl⟩
theorem rorRm16Imm8 (d : Rm16) (imm : Byte) : Statement (.rorRm16Imm8 d imm) := ⟨_, _, rfl, rfl⟩
theorem rclRm16Imm8 (d : Rm16) (imm : Byte) : Statement (.rclRm16Imm8 d imm) := ⟨_, _, rfl, rfl⟩
theorem rcrRm16Imm8 (d : Rm16) (imm : Byte) : Statement (.rcrRm16Imm8 d imm) := ⟨_, _, rfl, rfl⟩
theorem shlRm16Imm8 (d : Rm16) (imm : Byte) : Statement (.shlRm16Imm8 d imm) := ⟨_, _, rfl, rfl⟩
theorem shrRm16Imm8 (d : Rm16) (imm : Byte) : Statement (.shrRm16Imm8 d imm) := ⟨_, _, rfl, rfl⟩
theorem sarRm16Imm8 (d : Rm16) (imm : Byte) : Statement (.sarRm16Imm8 d imm) := ⟨_, _, rfl, rfl⟩
theorem rolRm8One (d : Rm8) : Statement (.rolRm8One d) := ⟨_, _, rfl, rfl⟩
theorem rorRm8One (d : Rm8) : Statement (.rorRm8One d) := ⟨_, _, rfl, rfl⟩
theorem rclRm8One (d : Rm8) : Statement (.rclRm8One d) := ⟨_, _, rfl, rfl⟩
theorem rcrRm8One (d : Rm8) : Statement (.rcrRm8One d) := ⟨_, _, rfl, rfl⟩
theorem shlRm8One (d : Rm8) : Statement (.shlRm8One d) := ⟨_, _, rfl, rfl⟩
theorem shrRm8One (d : Rm8) : Statement (.shrRm8One d) := ⟨_, _, rfl, rfl⟩
theorem sarRm8One (d : Rm8) : Statement (.sarRm8One d) := ⟨_, _, rfl, rfl⟩
theorem rolRm16One (d : Rm16) : Statement (.rolRm16One d) := ⟨_, _, rfl, rfl⟩
theorem rorRm16One (d : Rm16) : Statement (.rorRm16One d) := ⟨_, _, rfl, rfl⟩
theorem rclRm16One (d : Rm16) : Statement (.rclRm16One d) := ⟨_, _, rfl, rfl⟩
theorem rcrRm16One (d : Rm16) : Statement (.rcrRm16One d) := ⟨_, _, rfl, rfl⟩
theorem shlRm16One (d : Rm16) : Statement (.shlRm16One d) := ⟨_, _, rfl, rfl⟩
theorem shrRm16One (d : Rm16) : Statement (.shrRm16One d) := ⟨_, _, rfl, rfl⟩
theorem sarRm16One (d : Rm16) : Statement (.sarRm16One d) := ⟨_, _, rfl, rfl⟩
theorem rolRm8Cl (d : Rm8) : Statement (.rolRm8Cl d) := ⟨_, _, rfl, rfl⟩
theorem rorRm8Cl (d : Rm8) : Statement (.rorRm8Cl d) := ⟨_, _, rfl, rfl⟩
theorem rclRm8Cl (d : Rm8) : Statement (.rclRm8Cl d) := ⟨_, _, rfl, rfl⟩
theorem rcrRm8Cl (d : Rm8) : Statement (.rcrRm8Cl d) := ⟨_, _, rfl, rfl⟩
theorem shlRm8Cl (d : Rm8) : Statement (.shlRm8Cl d) := ⟨_, _, rfl, rfl⟩
theorem shrRm8Cl (d : Rm8) : Statement (.shrRm8Cl d) := ⟨_, _, rfl, rfl⟩
theorem sarRm8Cl (d : Rm8) : Statement (.sarRm8Cl d) := ⟨_, _, rfl, rfl⟩
theorem rolRm16Cl (d : Rm16) : Statement (.rolRm16Cl d) := ⟨_, _, rfl, rfl⟩
theorem rorRm16Cl (d : Rm16) : Statement (.rorRm16Cl d) := ⟨_, _, rfl, rfl⟩
theorem rclRm16Cl (d : Rm16) : Statement (.rclRm16Cl d) := ⟨_, _, rfl, rfl⟩
theorem rcrRm16Cl (d : Rm16) : Statement (.rcrRm16Cl d) := ⟨_, _, rfl, rfl⟩
theorem shlRm16Cl (d : Rm16) : Statement (.shlRm16Cl d) := ⟨_, _, rfl, rfl⟩
theorem shrRm16Cl (d : Rm16) : Statement (.shrRm16Cl d) := ⟨_, _, rfl, rfl⟩
theorem sarRm16Cl (d : Rm16) : Statement (.sarRm16Cl d) := ⟨_, _, rfl, rfl⟩
theorem retImm16 (imm : Word) : Statement (.retImm16 imm) := ⟨_, _, rfl, rfl⟩
theorem ret : Statement (.ret) := ⟨_, _, rfl, rfl⟩
theorem lesR16M1616 (r : R16) (m : Mem) : Statement (.lesR16M1616 r m) := ⟨_, _, rfl, rfl⟩
theorem ldsR16M1616 (r : R16) (m : Mem) : Statement (.ldsR16M1616 r m) := ⟨_, _, rfl, rfl⟩
theorem movRm8Imm8 (d : Rm8) (imm : Byte) : Statement (.movRm8Imm8 d imm) := ⟨_, _, rfl, rfl⟩
theorem movRm16Imm16 (d : Rm16) (imm : Word) : Statement (.movRm16Imm16 d imm) := ⟨_, _, rfl, rfl⟩
theorem enterImm16Imm8 (size : Word) (level : Byte) : Statement (.enterImm16Imm8 size level) := ⟨_, _, rfl, rfl⟩
theorem leave : Statement (.leave) := ⟨_, _, rfl, rfl⟩
theorem retfImm16 (imm : Word) : Statement (.retfImm16 imm) := ⟨_, _, rfl, rfl⟩
theorem retf : Statement (.retf) := ⟨_, _, rfl, rfl⟩
theorem int3 : Statement (.int3) := ⟨_, _, rfl, rfl⟩
theorem intImm8 (imm : Byte) : Statement (.intImm8 imm) := ⟨_, _, rfl, rfl⟩
theorem into : Statement (.into) := ⟨_, _, rfl, rfl⟩
theorem iret : Statement (.iret) := ⟨_, _, rfl, rfl⟩
theorem xlat (seg : SReg) : Statement (.xlat seg) := ⟨_, _, rfl, rfl⟩
theorem loopneRel8 (rel : Byte) : Statement (.loopneRel8 rel) := ⟨_, _, rfl, rfl⟩
theorem loopeRel8 (rel : Byte) : Statement (.loopeRel8 rel) := ⟨_, _, rfl, rfl⟩
theorem loopRel8 (rel : Byte) : Statement (.loopRel8 rel) := ⟨_, _, rfl, rfl⟩
theorem jcxzRel8 (rel : Byte) : Statement (.jcxzRel8 rel) := ⟨_, _, rfl, rfl⟩
theorem callRel16 (rel : Word) : Statement (.callRel16 rel) := ⟨_, _, rfl, rfl⟩
theorem jmpRel16 (rel : Word) : Statement (.jmpRel16 rel) := ⟨_, _, rfl, rfl⟩
theorem jmpPtr1616 (off : Word) (sel : Word) : Statement (.jmpPtr1616 off sel) := ⟨_, _, rfl, rfl⟩
theorem jmpRel8 (rel : Byte) : Statement (.jmpRel8 rel) := ⟨_, _, rfl, rfl⟩
theorem lockPrefix (i : Instr) : Statement (.lockPrefix i) := ⟨_, _, rfl, rfl⟩
theorem repnePrefix (i : Instr) : Statement (.repnePrefix i) := ⟨_, _, rfl, rfl⟩
theorem repPrefix (i : Instr) : Statement (.repPrefix i) := ⟨_, _, rfl, rfl⟩
theorem hlt : Statement (.hlt) := ⟨_, _, rfl, rfl⟩
theorem cmc : Statement (.cmc) := ⟨_, _, rfl, rfl⟩
theorem testRm8Imm8 (d : Rm8) (imm : Byte) : Statement (.testRm8Imm8 d imm) := ⟨_, _, rfl, rfl⟩
theorem notRm8 (d : Rm8) : Statement (.notRm8 d) := ⟨_, _, rfl, rfl⟩
theorem negRm8 (d : Rm8) : Statement (.negRm8 d) := ⟨_, _, rfl, rfl⟩
theorem mulRm8 (d : Rm8) : Statement (.mulRm8 d) := ⟨_, _, rfl, rfl⟩
theorem imulRm8 (d : Rm8) : Statement (.imulRm8 d) := ⟨_, _, rfl, rfl⟩
theorem divRm8 (d : Rm8) : Statement (.divRm8 d) := ⟨_, _, rfl, rfl⟩
theorem idivRm8 (d : Rm8) : Statement (.idivRm8 d) := ⟨_, _, rfl, rfl⟩
theorem testRm16Imm16 (d : Rm16) (imm : Word) : Statement (.testRm16Imm16 d imm) := ⟨_, _, rfl, rfl⟩
theorem notRm16 (d : Rm16) : Statement (.notRm16 d) := ⟨_, _, rfl, rfl⟩
theorem negRm16 (d : Rm16) : Statement (.negRm16 d) := ⟨_, _, rfl, rfl⟩
theorem mulRm16 (d : Rm16) : Statement (.mulRm16 d) := ⟨_, _, rfl, rfl⟩
theorem imulRm16 (d : Rm16) : Statement (.imulRm16 d) := ⟨_, _, rfl, rfl⟩
theorem divRm16 (d : Rm16) : Statement (.divRm16 d) := ⟨_, _, rfl, rfl⟩
theorem idivRm16 (d : Rm16) : Statement (.idivRm16 d) := ⟨_, _, rfl, rfl⟩
theorem clc : Statement (.clc) := ⟨_, _, rfl, rfl⟩
theorem stc : Statement (.stc) := ⟨_, _, rfl, rfl⟩
theorem cli : Statement (.cli) := ⟨_, _, rfl, rfl⟩
theorem sti : Statement (.sti) := ⟨_, _, rfl, rfl⟩
theorem cld : Statement (.cld) := ⟨_, _, rfl, rfl⟩
theorem std : Statement (.std) := ⟨_, _, rfl, rfl⟩
theorem incRm8 (d : Rm8) : Statement (.incRm8 d) := ⟨_, _, rfl, rfl⟩
theorem decRm8 (d : Rm8) : Statement (.decRm8 d) := ⟨_, _, rfl, rfl⟩
theorem incRm16 (d : Rm16) : Statement (.incRm16 d) := ⟨_, _, rfl, rfl⟩
theorem decRm16 (d : Rm16) : Statement (.decRm16 d) := ⟨_, _, rfl, rfl⟩
theorem callRm16 (d : Rm16) : Statement (.callRm16 d) := ⟨_, _, rfl, rfl⟩
theorem callM1616 (m : Mem) : Statement (.callM1616 m) := ⟨_, _, rfl, rfl⟩
theorem jmpRm16 (d : Rm16) : Statement (.jmpRm16 d) := ⟨_, _, rfl, rfl⟩
theorem jmpM1616 (m : Mem) : Statement (.jmpM1616 m) := ⟨_, _, rfl, rfl⟩
theorem pushRm16 (d : Rm16) : Statement (.pushRm16 d) := ⟨_, _, rfl, rfl⟩
theorem faddM32 (m : Mem) : Statement (.faddM32 m) := ⟨_, _, rfl, rfl⟩
theorem fmulM32 (m : Mem) : Statement (.fmulM32 m) := ⟨_, _, rfl, rfl⟩
theorem fcomM32 (m : Mem) : Statement (.fcomM32 m) := ⟨_, _, rfl, rfl⟩
theorem fcompM32 (m : Mem) : Statement (.fcompM32 m) := ⟨_, _, rfl, rfl⟩
theorem fsubM32 (m : Mem) : Statement (.fsubM32 m) := ⟨_, _, rfl, rfl⟩
theorem fsubrM32 (m : Mem) : Statement (.fsubrM32 m) := ⟨_, _, rfl, rfl⟩
theorem fdivM32 (m : Mem) : Statement (.fdivM32 m) := ⟨_, _, rfl, rfl⟩
theorem fdivrM32 (m : Mem) : Statement (.fdivrM32 m) := ⟨_, _, rfl, rfl⟩
theorem faddM64 (m : Mem) : Statement (.faddM64 m) := ⟨_, _, rfl, rfl⟩
theorem fmulM64 (m : Mem) : Statement (.fmulM64 m) := ⟨_, _, rfl, rfl⟩
theorem fcomM64 (m : Mem) : Statement (.fcomM64 m) := ⟨_, _, rfl, rfl⟩
theorem fcompM64 (m : Mem) : Statement (.fcompM64 m) := ⟨_, _, rfl, rfl⟩
theorem fsubM64 (m : Mem) : Statement (.fsubM64 m) := ⟨_, _, rfl, rfl⟩
theorem fsubrM64 (m : Mem) : Statement (.fsubrM64 m) := ⟨_, _, rfl, rfl⟩
theorem fdivM64 (m : Mem) : Statement (.fdivM64 m) := ⟨_, _, rfl, rfl⟩
theorem fdivrM64 (m : Mem) : Statement (.fdivrM64 m) := ⟨_, _, rfl, rfl⟩
theorem fiaddM32 (m : Mem) : Statement (.fiaddM32 m) := ⟨_, _, rfl, rfl⟩
theorem fimulM32 (m : Mem) : Statement (.fimulM32 m) := ⟨_, _, rfl, rfl⟩
theorem ficomM32 (m : Mem) : Statement (.ficomM32 m) := ⟨_, _, rfl, rfl⟩
theorem ficompM32 (m : Mem) : Statement (.ficompM32 m) := ⟨_, _, rfl, rfl⟩
theorem fisubM32 (m : Mem) : Statement (.fisubM32 m) := ⟨_, _, rfl, rfl⟩
theorem fisubrM32 (m : Mem) : Statement (.fisubrM32 m) := ⟨_, _, rfl, rfl⟩
theorem fidivM32 (m : Mem) : Statement (.fidivM32 m) := ⟨_, _, rfl, rfl⟩
theorem fidivrM32 (m : Mem) : Statement (.fidivrM32 m) := ⟨_, _, rfl, rfl⟩
theorem fiaddM16 (m : Mem) : Statement (.fiaddM16 m) := ⟨_, _, rfl, rfl⟩
theorem fimulM16 (m : Mem) : Statement (.fimulM16 m) := ⟨_, _, rfl, rfl⟩
theorem ficomM16 (m : Mem) : Statement (.ficomM16 m) := ⟨_, _, rfl, rfl⟩
theorem ficompM16 (m : Mem) : Statement (.ficompM16 m) := ⟨_, _, rfl, rfl⟩
theorem fisubM16 (m : Mem) : Statement (.fisubM16 m) := ⟨_, _, rfl, rfl⟩
theorem fisubrM16 (m : Mem) : Statement (.fisubrM16 m) := ⟨_, _, rfl, rfl⟩
theorem fidivM16 (m : Mem) : Statement (.fidivM16 m) := ⟨_, _, rfl, rfl⟩
theorem fidivrM16 (m : Mem) : Statement (.fidivrM16 m) := ⟨_, _, rfl, rfl⟩
theorem fldM32 (m : Mem) : Statement (.fldM32 m) := ⟨_, _, rfl, rfl⟩
theorem fstM32 (m : Mem) : Statement (.fstM32 m) := ⟨_, _, rfl, rfl⟩
theorem fstpM32 (m : Mem) : Statement (.fstpM32 m) := ⟨_, _, rfl, rfl⟩
theorem fldcwM16 (m : Mem) : Statement (.fldcwM16 m) := ⟨_, _, rfl, rfl⟩
theorem fnstcwM16 (m : Mem) : Statement (.fnstcwM16 m) := ⟨_, _, rfl, rfl⟩
theorem fildM32 (m : Mem) : Statement (.fildM32 m) := ⟨_, _, rfl, rfl⟩
theorem fistM32 (m : Mem) : Statement (.fistM32 m) := ⟨_, _, rfl, rfl⟩
theorem fistpM32 (m : Mem) : Statement (.fistpM32 m) := ⟨_, _, rfl, rfl⟩
theorem fldM80 (m : Mem) : Statement (.fldM80 m) := ⟨_, _, rfl, rfl⟩
theorem fstpM80 (m : Mem) : Statement (.fstpM80 m) := ⟨_, _, rfl, rfl⟩
theorem fldM64 (m : Mem) : Statement (.fldM64 m) := ⟨_, _, rfl, rfl⟩
theorem fstM64 (m : Mem) : Statement (.fstM64 m) := ⟨_, _, rfl, rfl⟩
theorem fstpM64 (m : Mem) : Statement (.fstpM64 m) := ⟨_, _, rfl, rfl⟩
theorem fnstswM16 (m : Mem) : Statement (.fnstswM16 m) := ⟨_, _, rfl, rfl⟩
theorem fildM16 (m : Mem) : Statement (.fildM16 m) := ⟨_, _, rfl, rfl⟩
theorem fistM16 (m : Mem) : Statement (.fistM16 m) := ⟨_, _, rfl, rfl⟩
theorem fistpM16 (m : Mem) : Statement (.fistpM16 m) := ⟨_, _, rfl, rfl⟩
theorem fildM64 (m : Mem) : Statement (.fildM64 m) := ⟨_, _, rfl, rfl⟩
theorem fistpM64 (m : Mem) : Statement (.fistpM64 m) := ⟨_, _, rfl, rfl⟩
theorem faddStSti (i : StIdx) : Statement (.faddStSti i) := ⟨_, _, rfl, rfl⟩
theorem fmulStSti (i : StIdx) : Statement (.fmulStSti i) := ⟨_, _, rfl, rfl⟩
theorem fcomSti (i : StIdx) : Statement (.fcomSti i) := ⟨_, _, rfl, rfl⟩
theorem fcompSti (i : StIdx) : Statement (.fcompSti i) := ⟨_, _, rfl, rfl⟩
theorem fsubStSti (i : StIdx) : Statement (.fsubStSti i) := ⟨_, _, rfl, rfl⟩
theorem fsubrStSti (i : StIdx) : Statement (.fsubrStSti i) := ⟨_, _, rfl, rfl⟩
theorem fdivStSti (i : StIdx) : Statement (.fdivStSti i) := ⟨_, _, rfl, rfl⟩
theorem fdivrStSti (i : StIdx) : Statement (.fdivrStSti i) := ⟨_, _, rfl, rfl⟩
theorem fldSti (i : StIdx) : Statement (.fldSti i) := ⟨_, _, rfl, rfl⟩
theorem fxchSti (i : StIdx) : Statement (.fxchSti i) := ⟨_, _, rfl, rfl⟩
theorem fnop : Statement (.fnop) := ⟨_, _, rfl, rfl⟩
theorem fchs : Statement (.fchs) := ⟨_, _, rfl, rfl⟩
theorem fabs : Statement (.fabs) := ⟨_, _, rfl, rfl⟩
theorem ftst : Statement (.ftst) := ⟨_, _, rfl, rfl⟩
theorem fxam : Statement (.fxam) := ⟨_, _, rfl, rfl⟩
theorem fld1 : Statement (.fld1) := ⟨_, _, rfl, rfl⟩
theorem fldl2t : Statement (.fldl2t) := ⟨_, _, rfl, rfl⟩
theorem fldl2e : Statement (.fldl2e) := ⟨_, _, rfl, rfl⟩
theorem fldpi : Statement (.fldpi) := ⟨_, _, rfl, rfl⟩
theorem fldlg2 : Statement (.fldlg2) := ⟨_, _, rfl, rfl⟩
theorem fldln2 : Statement (.fldln2) := ⟨_, _, rfl, rfl⟩
theorem fldz : Statement (.fldz) := ⟨_, _, rfl, rfl⟩
theorem fdecstp : Statement (.fdecstp) := ⟨_, _, rfl, rfl⟩
theorem fincstp : Statement (.fincstp) := ⟨_, _, rfl, rfl⟩
theorem fsqrt : Statement (.fsqrt) := ⟨_, _, rfl, rfl⟩
theorem frndint : Statement (.frndint) := ⟨_, _, rfl, rfl⟩
theorem fnclex : Statement (.fnclex) := ⟨_, _, rfl, rfl⟩
theorem fninit : Statement (.fninit) := ⟨_, _, rfl, rfl⟩
theorem faddStiSt (i : StIdx) : Statement (.faddStiSt i) := ⟨_, _, rfl, rfl⟩
theorem fmulStiSt (i : StIdx) : Statement (.fmulStiSt i) := ⟨_, _, rfl, rfl⟩
theorem fsubrStiSt (i : StIdx) : Statement (.fsubrStiSt i) := ⟨_, _, rfl, rfl⟩
theorem fsubStiSt (i : StIdx) : Statement (.fsubStiSt i) := ⟨_, _, rfl, rfl⟩
theorem fdivrStiSt (i : StIdx) : Statement (.fdivrStiSt i) := ⟨_, _, rfl, rfl⟩
theorem fdivStiSt (i : StIdx) : Statement (.fdivStiSt i) := ⟨_, _, rfl, rfl⟩
theorem ffreeSti (i : StIdx) : Statement (.ffreeSti i) := ⟨_, _, rfl, rfl⟩
theorem fstSti (i : StIdx) : Statement (.fstSti i) := ⟨_, _, rfl, rfl⟩
theorem fstpSti (i : StIdx) : Statement (.fstpSti i) := ⟨_, _, rfl, rfl⟩
theorem faddpStiSt (i : StIdx) : Statement (.faddpStiSt i) := ⟨_, _, rfl, rfl⟩
theorem fmulpStiSt (i : StIdx) : Statement (.fmulpStiSt i) := ⟨_, _, rfl, rfl⟩
theorem fsubrpStiSt (i : StIdx) : Statement (.fsubrpStiSt i) := ⟨_, _, rfl, rfl⟩
theorem fsubpStiSt (i : StIdx) : Statement (.fsubpStiSt i) := ⟨_, _, rfl, rfl⟩
theorem fdivrpStiSt (i : StIdx) : Statement (.fdivrpStiSt i) := ⟨_, _, rfl, rfl⟩
theorem fdivpStiSt (i : StIdx) : Statement (.fdivpStiSt i) := ⟨_, _, rfl, rfl⟩
theorem fcompp : Statement (.fcompp) := ⟨_, _, rfl, rfl⟩
theorem fnstswAx : Statement (.fnstswAx) := ⟨_, _, rfl, rfl⟩

end Sys2Proof.Laws.PrefixByte
end

