-- ==== Sys2Proof/Tests/Slice0.lean ====
section
/-! SUPPORT. The model's own tests. Every expected value is the spec's: the words are written out from the encoding
tables of 30_encoding and spec/opcode_table.json, the steps are vectors of 95_test_vectors.md and
96_test_vectors_x87.md, cited by their names (`M1`, `A9`, ...). At the end, for each statement with hypotheses, states
and operands that meet them. -/

namespace Sys2Proof.Tests

open Sys2Proof.Machine Sys2Proof.Spec

/-! ## Well-formedness: one ill-formed term for each check -/

theorem test_wf_accepts : [Instr.nop, .movR16Rm16 .ax (.mem ⟨.ss, .disp8 .bp 0⟩),
    .esPrefix (.movR16Rm16 .ax (.mem ⟨.es, .direct 0⟩)), .csPrefix (.xlat .cs), .repPrefix (.scasb (some .rep)),
    .lockPrefix .nop].all Instr.wf = true := by decide

/-- `BP` alone has no encoding (30_encoding R130). -/
theorem test_wf_refuses_plain_bp : (Instr.leaR16M .ax ⟨.ss, .plain .bp⟩).wf = false := by decide

/-- The segment is the default or the override (30_encoding R131). -/
theorem test_wf_refuses_segment : [Instr.movR16Rm16 .ax (.mem ⟨.ds, .disp8 .bp 0⟩), .movR16Rm16 .ax (.mem ⟨.es, .plain .bx⟩),
    .esPrefix (.movR16Rm16 .ax (.mem ⟨.ds, .plain .bx⟩)), .csPrefix (.esPrefix (.incRm8 (.mem ⟨.cs, .plain .si⟩)))].all
    (fun i => !i.wf) = true := by decide

theorem test_wf_refuses_implied_segment : [Instr.xlat .es, .movAlMoffs8 .ss 0, .ssPrefix (.movMoffs16Ax .ds 0)].all
    (fun i => !i.wf) = true := by decide

theorem test_wf_refuses_string_segment : [Instr.movsb .es none, .csPrefix (.lodsw .ds none)].all (fun i => !i.wf) = true := by
  decide

/-- A string instruction records the repeat prefix in force, the last one (30_encoding R123, R125). -/
theorem test_wf_refuses_string_repeat : [Instr.scasb (some .rep), .repPrefix (.scasb none), .repPrefix (.scasb (some .repne)),
    .repPrefix (.repnePrefix (.scasb (some .rep)))].all (fun i => !i.wf) = true := by decide

/-- A repeat prefix precedes string opcodes only (30_encoding R125). -/
theorem test_wf_refuses_repeat : [Instr.repPrefix .nop, .repnePrefix (.incRm8 (.reg .al)), .repPrefix (.xlat .ds),
    .repPrefix (.esPrefix .ret)].all (fun i => !i.wf) = true := by decide

/-- More than 15 bytes (30_encoding R127). -/
theorem test_wf_refuses_length : ((List.replicate 14 Instr.lockPrefix).foldr (fun (f : Instr → Instr) i => f i) .nop).wf = true
    ∧ ((List.replicate 15 Instr.lockPrefix).foldr (fun (f : Instr → Instr) i => f i) .nop).wf = false
    ∧ ((List.replicate 14 Instr.lockPrefix).foldr (fun (f : Instr → Instr) i => f i) (.pushImm8 0)).wf = false := by decide

/-! ## Decoding: a word of every row, written out from its encoding; the bytes after it are not read -/

/-- The bytes, with others after them, decode to the instruction, at their length. -/
noncomputable def decodesTo (bs : List Byte) (i : Instr) : Bool :=
  match decode (bs ++ [0xB8, 0x5A]) with
  | .ok (j, n) => decide (j = i) && n == bs.length
  | .error _ => false

noncomputable def decodeAll (xs : List (List Byte × Instr)) : Bool := xs.all (fun x => decodesTo x.1 x.2)

/-- The bytes match no admitted instruction. -/
noncomputable def isInvalid (bs : List Byte) : Bool :=
  match decode bs with
  | .error .invalid => true
  | _ => false

/-- `op /r`: `r/m`, then the register (30_encoding R129, R136). -/
theorem test_decode_MR : decodeAll [
    ([0x00, 0x1B], Instr.addRm8R8 (.mem ⟨.ss, .plain .bpdi⟩) .bl), ([0x01, 0xE2], .addRm16R16 (.reg .dx) .sp),
    ([0x08, 0xE6], .orRm8R8 (.reg .dh) .ah), ([0x09, 0xD7], .orRm16R16 (.reg .di) .dx),
    ([0x10, 0xD3], .adcRm8R8 (.reg .bl) .dl), ([0x11, 0xC4], .adcRm16R16 (.reg .sp) .ax),
    ([0x18, 0xC0], .sbbRm8R8 (.reg .al) .al), ([0x19, 0xF1], .sbbRm16R16 (.reg .cx) .si),
    ([0x20, 0xF5], .andRm8R8 (.reg .ch) .dh), ([0x21, 0xE6], .andRm16R16 (.reg .si) .sp),
    ([0x28, 0xE2], .subRm8R8 (.reg .dl) .ah), ([0x29, 0xD3], .subRm16R16 (.reg .bx) .dx),
    ([0x30, 0xD7], .xorRm8R8 (.reg .bh) .dl), ([0x31, 0xC0], .xorRm16R16 (.reg .ax) .ax),
    ([0x38, 0xC4], .cmpRm8R8 (.reg .ah) .al), ([0x39, 0xF5], .cmpRm16R16 (.reg .bp) .si),
    ([0x84, 0xC4], .testRm8R8 (.reg .ah) .al), ([0x85, 0xF5], .testRm16R16 (.reg .bp) .si),
    ([0x88, 0xC0], .movRm8R8 (.reg .al) .al), ([0x89, 0xF1], .movRm16R16 (.reg .cx) .si)] = true := by decide

/-- `op /r`: the register, then `r/m`. -/
theorem test_decode_RM : decodeAll [
    ([0x02, 0xD3], Instr.addR8Rm8 .dl (.reg .bl)), ([0x03, 0xC4], .addR16Rm16 .ax (.reg .sp)),
    ([0x0A, 0xC0], .orR8Rm8 .al (.reg .al)), ([0x0B, 0xF1], .orR16Rm16 .si (.reg .cx)),
    ([0x12, 0xF5], .adcR8Rm8 .dh (.reg .ch)), ([0x13, 0xE6], .adcR16Rm16 .sp (.reg .si)),
    ([0x1A, 0xE2], .sbbR8Rm8 .ah (.reg .dl)), ([0x1B, 0xD3], .sbbR16Rm16 .dx (.reg .bx)),
    ([0x22, 0xD7], .andR8Rm8 .dl (.reg .bh)), ([0x23, 0xC0], .andR16Rm16 .ax (.reg .ax)),
    ([0x2A, 0xC4], .subR8Rm8 .al (.reg .ah)), ([0x2B, 0xF5], .subR16Rm16 .si (.reg .bp)),
    ([0x32, 0xF1], .xorR8Rm8 .dh (.reg .cl)), ([0x33, 0xE2], .xorR16Rm16 .sp (.reg .dx)),
    ([0x3A, 0xE6], .cmpR8Rm8 .ah (.reg .dh)), ([0x3B, 0xD7], .cmpR16Rm16 .dx (.reg .di)),
    ([0x86, 0xE6], .xchgR8Rm8 .ah (.reg .dh)), ([0x87, 0xD7], .xchgR16Rm16 .dx (.reg .di)),
    ([0x8A, 0xE2], .movR8Rm8 .ah (.reg .dl)), ([0x8B, 0xD3], .movR16Rm16 .dx (.reg .bx))] = true := by decide

theorem test_decode_AI : decodeAll [
    ([0x04, 0x9A], Instr.addAlImm8 0x9A), ([0x05, 0x34, 0x12], .addAxImm16 0x1234), ([0x0C, 0x9A], .orAlImm8 0x9A),
    ([0x0D, 0x34, 0x12], .orAxImm16 0x1234), ([0x14, 0x9A], .adcAlImm8 0x9A),
    ([0x15, 0x34, 0x12], .adcAxImm16 0x1234), ([0x1C, 0x9A], .sbbAlImm8 0x9A),
    ([0x1D, 0x34, 0x12], .sbbAxImm16 0x1234), ([0x24, 0x9A], .andAlImm8 0x9A),
    ([0x25, 0x34, 0x12], .andAxImm16 0x1234), ([0x2C, 0x9A], .subAlImm8 0x9A),
    ([0x2D, 0x34, 0x12], .subAxImm16 0x1234), ([0x34, 0x9A], .xorAlImm8 0x9A),
    ([0x35, 0x34, 0x12], .xorAxImm16 0x1234), ([0x3C, 0x9A], .cmpAlImm8 0x9A),
    ([0x3D, 0x34, 0x12], .cmpAxImm16 0x1234), ([0xA8, 0x9A], .testAlImm8 0x9A),
    ([0xA9, 0x34, 0x12], .testAxImm16 0x1234)] = true := by decide

theorem test_decode_SR : decodeAll [
    ([0x06], Instr.pushEs), ([0x0E], .pushCs), ([0x16], .pushSs), ([0x1E], .pushDs), ([0x07], .popEs),
    ([0x17], .popSs), ([0x1F], .popDs)] = true := by decide

theorem test_decode_O : decodeAll [
    ([0x43], Instr.incR16 .bx), ([0x4E], .decR16 .si), ([0x51], .pushR16 .cx), ([0x5C], .popR16 .sp),
    ([0x91], .xchgAxCx), ([0x92], .xchgAxDx), ([0x93], .xchgAxBx), ([0x94], .xchgAxSp), ([0x95], .xchgAxBp),
    ([0x96], .xchgAxSi), ([0x97], .xchgAxDi)] = true := by decide

theorem test_decode_NP_0 : decodeAll [
    ([0x60], Instr.pusha), ([0x61], .popa), ([0x90], .nop), ([0x98], .cbw), ([0x99], .cwd), ([0x9B], .wait),
    ([0x9C], .pushf), ([0x9D], .popf), ([0x9E], .sahf), ([0x9F], .lahf), ([0xA4], .movsb .ds none),
    ([0xA5], .movsw .ds none), ([0xA6], .cmpsb .ds none), ([0xA7], .cmpsw .ds none), ([0xAA], .stosb none),
    ([0xAB], .stosw none), ([0xAC], .lodsb .ds none), ([0xAD], .lodsw .ds none), ([0xAE], .scasb none),
    ([0xAF], .scasw none), ([0xC3], .ret), ([0xC9], .leave), ([0xCB], .retf), ([0xCC], .int3), ([0xCE], .into),
    ([0xCF], .iret)] = true := by decide

theorem test_decode_NP_1 : decodeAll [
    ([0xD7], Instr.xlat .ds), ([0xF4], .hlt), ([0xF5], .cmc), ([0xF8], .clc), ([0xF9], .stc), ([0xFA], .cli),
    ([0xFB], .sti), ([0xFC], .cld), ([0xFD], .std)] = true := by decide

theorem test_decode_RMm : decodeAll [
    ([0x62, 0x28], Instr.boundR16M1616 .bp ⟨.ds, .plain .bxsi⟩),
    ([0x8D, 0x41, 0x81], .leaR16M .ax ⟨.ds, .disp8 .bxdi 0x81⟩),
    ([0xC4, 0x33], .lesR16M1616 .si ⟨.ss, .plain .bpdi⟩),
    ([0xC5, 0xA5, 0x05, 0xFE], .ldsR16M1616 .sp ⟨.ds, .disp16 .di 0xFE05⟩)] = true := by decide

theorem test_decode_I16 : decodeAll [
    ([0x68, 0x34, 0x12], Instr.pushImm16 0x1234), ([0xC2, 0x34, 0x12], .retImm16 0x1234),
    ([0xCA, 0x34, 0x12], .retfImm16 0x1234)] = true := by decide

theorem test_decode_RMI : decodeAll [
    ([0x69, 0xF1, 0x34, 0x12], Instr.imulR16Rm16Imm16 .si (.reg .cx) 0x1234)] = true := by decide

theorem test_decode_I8 : decodeAll [
    ([0x6A, 0x9A], Instr.pushImm8 0x9A), ([0xCD, 0x9A], .intImm8 0x9A)] = true := by decide

theorem test_decode_RMI8 : decodeAll [
    ([0x6B, 0x7F, 0x87, 0x9A], Instr.imulR16Rm16Imm8 .di (.mem ⟨.ds, .disp8 .bx 0x87⟩) 0x9A)] = true := by decide

theorem test_decode_D8 : decodeAll [
    ([0x70, 0x9A], Instr.joRel8 0x9A), ([0x71, 0x9A], .jnoRel8 0x9A), ([0x72, 0x9A], .jbRel8 0x9A),
    ([0x73, 0x9A], .jnbRel8 0x9A), ([0x74, 0x9A], .jzRel8 0x9A), ([0x75, 0x9A], .jnzRel8 0x9A),
    ([0x76, 0x9A], .jbeRel8 0x9A), ([0x77, 0x9A], .jnbeRel8 0x9A), ([0x78, 0x9A], .jsRel8 0x9A),
    ([0x79, 0x9A], .jnsRel8 0x9A), ([0x7A, 0x9A], .jpRel8 0x9A), ([0x7B, 0x9A], .jnpRel8 0x9A),
    ([0x7C, 0x9A], .jlRel8 0x9A), ([0x7D, 0x9A], .jnlRel8 0x9A), ([0x7E, 0x9A], .jleRel8 0x9A),
    ([0x7F, 0x9A], .jnleRel8 0x9A), ([0xE0, 0x9A], .loopneRel8 0x9A), ([0xE1, 0x9A], .loopeRel8 0x9A),
    ([0xE2, 0x9A], .loopRel8 0x9A), ([0xE3, 0x9A], .jcxzRel8 0x9A), ([0xEB, 0x9A], .jmpRel8 0x9A)] = true := by decide

theorem test_decode_MI : decodeAll [
    ([0x80, 0xC4, 0x9A], Instr.addRm8Imm8 (.reg .ah) 0x9A), ([0x80, 0xCD, 0x9A], .orRm8Imm8 (.reg .ch) 0x9A),
    ([0x80, 0xD6, 0x9A], .adcRm8Imm8 (.reg .dh) 0x9A), ([0x80, 0xDF, 0x9A], .sbbRm8Imm8 (.reg .bh) 0x9A),
    ([0x80, 0xE0, 0x9A], .andRm8Imm8 (.reg .al) 0x9A), ([0x80, 0xE9, 0x9A], .subRm8Imm8 (.reg .cl) 0x9A),
    ([0x80, 0xF2, 0x9A], .xorRm8Imm8 (.reg .dl) 0x9A), ([0x80, 0xFB, 0x9A], .cmpRm8Imm8 (.reg .bl) 0x9A),
    ([0x81, 0xC4, 0x34, 0x12], .addRm16Imm16 (.reg .sp) 0x1234),
    ([0x81, 0xCD, 0x34, 0x12], .orRm16Imm16 (.reg .bp) 0x1234),
    ([0x81, 0xD6, 0x34, 0x12], .adcRm16Imm16 (.reg .si) 0x1234),
    ([0x81, 0xDF, 0x34, 0x12], .sbbRm16Imm16 (.reg .di) 0x1234),
    ([0x81, 0xE0, 0x34, 0x12], .andRm16Imm16 (.reg .ax) 0x1234),
    ([0x81, 0xE9, 0x34, 0x12], .subRm16Imm16 (.reg .cx) 0x1234),
    ([0x81, 0xF2, 0x34, 0x12], .xorRm16Imm16 (.reg .dx) 0x1234),
    ([0x81, 0xFB, 0x34, 0x12], .cmpRm16Imm16 (.reg .bx) 0x1234), ([0xC6, 0xC3, 0x9A], .movRm8Imm8 (.reg .bl) 0x9A),
    ([0xC7, 0xC4, 0x34, 0x12], .movRm16Imm16 (.reg .sp) 0x1234),
    ([0xF6, 0x47, 0x87, 0x9A], .testRm8Imm8 (.mem ⟨.ds, .disp8 .bx 0x87⟩) 0x9A),
    ([0xF7, 0xC6, 0x34, 0x12], .testRm16Imm16 (.reg .si) 0x1234)] = true := by decide

theorem test_decode_MI8 : decodeAll [
    ([0x83, 0xC4, 0x9A], Instr.addRm16Imm8 (.reg .sp) 0x9A), ([0x83, 0xCD, 0x9A], .orRm16Imm8 (.reg .bp) 0x9A),
    ([0x83, 0xD6, 0x9A], .adcRm16Imm8 (.reg .si) 0x9A), ([0x83, 0xDF, 0x9A], .sbbRm16Imm8 (.reg .di) 0x9A),
    ([0x83, 0xE0, 0x9A], .andRm16Imm8 (.reg .ax) 0x9A), ([0x83, 0xE9, 0x9A], .subRm16Imm8 (.reg .cx) 0x9A),
    ([0x83, 0xF2, 0x9A], .xorRm16Imm8 (.reg .dx) 0x9A), ([0x83, 0xFB, 0x9A], .cmpRm16Imm8 (.reg .bx) 0x9A),
    ([0xC0, 0xC6, 0x9A], .rolRm8Imm8 (.reg .dh) 0x9A), ([0xC0, 0xCF, 0x9A], .rorRm8Imm8 (.reg .bh) 0x9A),
    ([0xC0, 0xD0, 0x9A], .rclRm8Imm8 (.reg .al) 0x9A), ([0xC0, 0xD9, 0x9A], .rcrRm8Imm8 (.reg .cl) 0x9A),
    ([0xC0, 0xE2, 0x9A], .shlRm8Imm8 (.reg .dl) 0x9A), ([0xC0, 0xEB, 0x9A], .shrRm8Imm8 (.reg .bl) 0x9A),
    ([0xC0, 0xFC, 0x9A], .sarRm8Imm8 (.reg .ah) 0x9A), ([0xC1, 0xC5, 0x9A], .rolRm16Imm8 (.reg .bp) 0x9A),
    ([0xC1, 0xCE, 0x9A], .rorRm16Imm8 (.reg .si) 0x9A), ([0xC1, 0xD7, 0x9A], .rclRm16Imm8 (.reg .di) 0x9A),
    ([0xC1, 0xD8, 0x9A], .rcrRm16Imm8 (.reg .ax) 0x9A), ([0xC1, 0xE1, 0x9A], .shlRm16Imm8 (.reg .cx) 0x9A),
    ([0xC1, 0xEA, 0x9A], .shrRm16Imm8 (.reg .dx) 0x9A), ([0xC1, 0xFB, 0x9A], .sarRm16Imm8 (.reg .bx) 0x9A)] = true := by decide

theorem test_decode_MS : decodeAll [
    ([0x8C, 0xC4], Instr.movRm16Es (.reg .sp)), ([0x8C, 0xCD], .movRm16Cs (.reg .bp)),
    ([0x8C, 0xD6], .movRm16Ss (.reg .si)), ([0x8C, 0xDF], .movRm16Ds (.reg .di))] = true := by decide

theorem test_decode_SM : decodeAll [
    ([0x8E, 0xC1], Instr.movEsRm16 (.reg .cx)), ([0x8E, 0xD2], .movSsRm16 (.reg .dx)),
    ([0x8E, 0xDB], .movDsRm16 (.reg .bx))] = true := by decide

theorem test_decode_M : decodeAll [
    ([0x8F, 0xC4], Instr.popRm16 (.reg .sp)), ([0xF6, 0xD0], .notRm8 (.reg .al)),
    ([0xF6, 0xD9], .negRm8 (.reg .cl)), ([0xF6, 0xE2], .mulRm8 (.reg .dl)), ([0xF6, 0xEB], .imulRm8 (.reg .bl)),
    ([0xF6, 0xF4], .divRm8 (.reg .ah)), ([0xF6, 0xFD], .idivRm8 (.reg .ch)), ([0xF7, 0xD7], .notRm16 (.reg .di)),
    ([0xF7, 0xD8], .negRm16 (.reg .ax)), ([0xF7, 0xE1], .mulRm16 (.reg .cx)), ([0xF7, 0xEA], .imulRm16 (.reg .dx)),
    ([0xF7, 0xF3], .divRm16 (.reg .bx)), ([0xF7, 0xFC], .idivRm16 (.reg .sp)), ([0xFE, 0xC0], .incRm8 (.reg .al)),
    ([0xFE, 0xC9], .decRm8 (.reg .cl)), ([0xFF, 0xC2], .incRm16 (.reg .dx)), ([0xFF, 0xCB], .decRm16 (.reg .bx)),
    ([0xFF, 0xD4], .callRm16 (.reg .sp)), ([0xFF, 0xE6], .jmpRm16 (.reg .si)), ([0xFF, 0xF0], .pushRm16 (.reg .ax))] = true := by decide

theorem test_decode_FAR : decodeAll [
    ([0x9A, 0x34, 0x12, 0x78, 0x56], Instr.callPtr1616 0x1234 0x5678),
    ([0xEA, 0x34, 0x12, 0x78, 0x56], .jmpPtr1616 0x1234 0x5678)] = true := by decide

theorem test_decode_FD : decodeAll [
    ([0xA0, 0x34, 0x12], Instr.movAlMoffs8 .ds 0x1234), ([0xA1, 0x34, 0x12], .movAxMoffs16 .ds 0x1234)] = true := by decide

theorem test_decode_TD : decodeAll [
    ([0xA2, 0x34, 0x12], Instr.movMoffs8Al .ds 0x1234), ([0xA3, 0x34, 0x12], .movMoffs16Ax .ds 0x1234)] = true := by decide

theorem test_decode_OI : decodeAll [
    ([0xB6, 0x9A], Instr.movR8Imm8 .dh 0x9A), ([0xB9, 0x34, 0x12], .movR16Imm16 .cx 0x1234)] = true := by decide

theorem test_decode_M1 : decodeAll [
    ([0xD0, 0xC4], Instr.rolRm8One (.reg .ah)), ([0xD0, 0xCD], .rorRm8One (.reg .ch)),
    ([0xD0, 0xD6], .rclRm8One (.reg .dh)), ([0xD0, 0xDF], .rcrRm8One (.reg .bh)),
    ([0xD0, 0xE0], .shlRm8One (.reg .al)), ([0xD0, 0xE9], .shrRm8One (.reg .cl)),
    ([0xD0, 0xFA], .sarRm8One (.reg .dl)), ([0xD1, 0xC3], .rolRm16One (.reg .bx)),
    ([0xD1, 0xCC], .rorRm16One (.reg .sp)), ([0xD1, 0xD5], .rclRm16One (.reg .bp)),
    ([0xD1, 0xDE], .rcrRm16One (.reg .si)), ([0xD1, 0xE7], .shlRm16One (.reg .di)),
    ([0xD1, 0xE8], .shrRm16One (.reg .ax)), ([0xD1, 0xF9], .sarRm16One (.reg .cx))] = true := by decide

theorem test_decode_MC : decodeAll [
    ([0xD2, 0xC2], Instr.rolRm8Cl (.reg .dl)), ([0xD2, 0xCB], .rorRm8Cl (.reg .bl)),
    ([0xD2, 0xD4], .rclRm8Cl (.reg .ah)), ([0xD2, 0xDD], .rcrRm8Cl (.reg .ch)),
    ([0xD2, 0xE6], .shlRm8Cl (.reg .dh)), ([0xD2, 0xEF], .shrRm8Cl (.reg .bh)),
    ([0xD2, 0xF8], .sarRm8Cl (.reg .al)), ([0xD3, 0xC1], .rolRm16Cl (.reg .cx)),
    ([0xD3, 0xCA], .rorRm16Cl (.reg .dx)), ([0xD3, 0xD3], .rclRm16Cl (.reg .bx)),
    ([0xD3, 0xDC], .rcrRm16Cl (.reg .sp)), ([0xD3, 0xE5], .shlRm16Cl (.reg .bp)),
    ([0xD3, 0xEE], .shrRm16Cl (.reg .si)), ([0xD3, 0xFF], .sarRm16Cl (.reg .di))] = true := by decide

theorem test_decode_I16I8 : decodeAll [
    ([0xC8, 0x34, 0x12, 0x9A], Instr.enterImm16Imm8 0x1234 0x9A)] = true := by decide

theorem test_decode_D16 : decodeAll [
    ([0xE8, 0x34, 0x12], Instr.callRel16 0x1234), ([0xE9, 0x34, 0x12], .jmpRel16 0x1234)] = true := by decide

theorem test_decode_Mm : decodeAll [
    ([0xFF, 0x1B], Instr.callM1616 ⟨.ss, .plain .bpdi⟩), ([0xFF, 0x6F, 0x87], .jmpM1616 ⟨.ds, .disp8 .bx 0x87⟩)] = true := by decide

theorem test_decode_FM_0 : decodeAll [
    ([0xD8, 0x03], Instr.faddM32 ⟨.ss, .plain .bpdi⟩),
    ([0xD8, 0x8D, 0x05, 0xFE], .fmulM32 ⟨.ds, .disp16 .di 0xFE05⟩),
    ([0xD8, 0x57, 0x87], .fcomM32 ⟨.ds, .disp8 .bx 0x87⟩), ([0xD8, 0x59, 0x81], .fcompM32 ⟨.ds, .disp8 .bxdi 0x81⟩),
    ([0xD8, 0x23], .fsubM32 ⟨.ss, .plain .bpdi⟩), ([0xD8, 0xAD, 0x05, 0xFE], .fsubrM32 ⟨.ds, .disp16 .di 0xFE05⟩),
    ([0xD8, 0x77, 0x87], .fdivM32 ⟨.ds, .disp8 .bx 0x87⟩), ([0xD8, 0x79, 0x81], .fdivrM32 ⟨.ds, .disp8 .bxdi 0x81⟩),
    ([0xDC, 0x03], .faddM64 ⟨.ss, .plain .bpdi⟩), ([0xDC, 0x8D, 0x05, 0xFE], .fmulM64 ⟨.ds, .disp16 .di 0xFE05⟩),
    ([0xDC, 0x57, 0x87], .fcomM64 ⟨.ds, .disp8 .bx 0x87⟩), ([0xDC, 0x59, 0x81], .fcompM64 ⟨.ds, .disp8 .bxdi 0x81⟩),
    ([0xDC, 0x23], .fsubM64 ⟨.ss, .plain .bpdi⟩), ([0xDC, 0xAD, 0x05, 0xFE], .fsubrM64 ⟨.ds, .disp16 .di 0xFE05⟩),
    ([0xDC, 0x77, 0x87], .fdivM64 ⟨.ds, .disp8 .bx 0x87⟩), ([0xDC, 0x79, 0x81], .fdivrM64 ⟨.ds, .disp8 .bxdi 0x81⟩),
    ([0xDA, 0x03], .fiaddM32 ⟨.ss, .plain .bpdi⟩), ([0xDA, 0x8D, 0x05, 0xFE], .fimulM32 ⟨.ds, .disp16 .di 0xFE05⟩),
    ([0xDA, 0x57, 0x87], .ficomM32 ⟨.ds, .disp8 .bx 0x87⟩),
    ([0xDA, 0x59, 0x81], .ficompM32 ⟨.ds, .disp8 .bxdi 0x81⟩), ([0xDA, 0x23], .fisubM32 ⟨.ss, .plain .bpdi⟩),
    ([0xDA, 0xAD, 0x05, 0xFE], .fisubrM32 ⟨.ds, .disp16 .di 0xFE05⟩),
    ([0xDA, 0x77, 0x87], .fidivM32 ⟨.ds, .disp8 .bx 0x87⟩),
    ([0xDA, 0x79, 0x81], .fidivrM32 ⟨.ds, .disp8 .bxdi 0x81⟩), ([0xDE, 0x03], .fiaddM16 ⟨.ss, .plain .bpdi⟩),
    ([0xDE, 0x8D, 0x05, 0xFE], .fimulM16 ⟨.ds, .disp16 .di 0xFE05⟩)] = true := by decide

theorem test_decode_FM_1 : decodeAll [
    ([0xDE, 0x57, 0x87], Instr.ficomM16 ⟨.ds, .disp8 .bx 0x87⟩),
    ([0xDE, 0x59, 0x81], .ficompM16 ⟨.ds, .disp8 .bxdi 0x81⟩), ([0xDE, 0x23], .fisubM16 ⟨.ss, .plain .bpdi⟩),
    ([0xDE, 0xAD, 0x05, 0xFE], .fisubrM16 ⟨.ds, .disp16 .di 0xFE05⟩),
    ([0xDE, 0x77, 0x87], .fidivM16 ⟨.ds, .disp8 .bx 0x87⟩),
    ([0xDE, 0x79, 0x81], .fidivrM16 ⟨.ds, .disp8 .bxdi 0x81⟩), ([0xD9, 0x03], .fldM32 ⟨.ss, .plain .bpdi⟩),
    ([0xD9, 0x95, 0x05, 0xFE], .fstM32 ⟨.ds, .disp16 .di 0xFE05⟩),
    ([0xD9, 0x5F, 0x87], .fstpM32 ⟨.ds, .disp8 .bx 0x87⟩), ([0xD9, 0x69, 0x81], .fldcwM16 ⟨.ds, .disp8 .bxdi 0x81⟩),
    ([0xD9, 0x3B], .fnstcwM16 ⟨.ss, .plain .bpdi⟩), ([0xDB, 0x85, 0x05, 0xFE], .fildM32 ⟨.ds, .disp16 .di 0xFE05⟩),
    ([0xDB, 0x57, 0x87], .fistM32 ⟨.ds, .disp8 .bx 0x87⟩), ([0xDB, 0x59, 0x81], .fistpM32 ⟨.ds, .disp8 .bxdi 0x81⟩),
    ([0xDB, 0x2B], .fldM80 ⟨.ss, .plain .bpdi⟩), ([0xDB, 0xBD, 0x05, 0xFE], .fstpM80 ⟨.ds, .disp16 .di 0xFE05⟩),
    ([0xDD, 0x47, 0x87], .fldM64 ⟨.ds, .disp8 .bx 0x87⟩), ([0xDD, 0x51, 0x81], .fstM64 ⟨.ds, .disp8 .bxdi 0x81⟩),
    ([0xDD, 0x1B], .fstpM64 ⟨.ss, .plain .bpdi⟩), ([0xDD, 0xBD, 0x05, 0xFE], .fnstswM16 ⟨.ds, .disp16 .di 0xFE05⟩),
    ([0xDF, 0x47, 0x87], .fildM16 ⟨.ds, .disp8 .bx 0x87⟩), ([0xDF, 0x51, 0x81], .fistM16 ⟨.ds, .disp8 .bxdi 0x81⟩),
    ([0xDF, 0x1B], .fistpM16 ⟨.ss, .plain .bpdi⟩), ([0xDF, 0xAD, 0x05, 0xFE], .fildM64 ⟨.ds, .disp16 .di 0xFE05⟩),
    ([0xDF, 0x7F, 0x87], .fistpM64 ⟨.ds, .disp8 .bx 0x87⟩)] = true := by decide

theorem test_decode_FI : decodeAll [
    ([0xD8, 0xC0], Instr.faddStSti 0), ([0xD8, 0xCB], .fmulStSti 3), ([0xD8, 0xD6], .fcomSti 6),
    ([0xD8, 0xD9], .fcompSti 1), ([0xD8, 0xE4], .fsubStSti 4), ([0xD8, 0xEF], .fsubrStSti 7),
    ([0xD8, 0xF2], .fdivStSti 2), ([0xD8, 0xFD], .fdivrStSti 5), ([0xD9, 0xC0], .fldSti 0),
    ([0xD9, 0xCB], .fxchSti 3), ([0xDC, 0xC4], .faddStiSt 4), ([0xDC, 0xCF], .fmulStiSt 7),
    ([0xDC, 0xE2], .fsubrStiSt 2), ([0xDC, 0xED], .fsubStiSt 5), ([0xDC, 0xF0], .fdivrStiSt 0),
    ([0xDC, 0xFB], .fdivStiSt 3), ([0xDD, 0xC6], .ffreeSti 6), ([0xDD, 0xD1], .fstSti 1),
    ([0xDD, 0xDC], .fstpSti 4), ([0xDE, 0xC7], .faddpStiSt 7), ([0xDE, 0xCA], .fmulpStiSt 2),
    ([0xDE, 0xE5], .fsubrpStiSt 5), ([0xDE, 0xE8], .fsubpStiSt 0), ([0xDE, 0xF3], .fdivrpStiSt 3),
    ([0xDE, 0xFE], .fdivpStiSt 6)] = true := by decide

theorem test_decode_NP2 : decodeAll [
    ([0xD9, 0xD0], Instr.fnop), ([0xD9, 0xE0], .fchs), ([0xD9, 0xE1], .fabs), ([0xD9, 0xE4], .ftst),
    ([0xD9, 0xE5], .fxam), ([0xD9, 0xE8], .fld1), ([0xD9, 0xE9], .fldl2t), ([0xD9, 0xEA], .fldl2e),
    ([0xD9, 0xEB], .fldpi), ([0xD9, 0xEC], .fldlg2), ([0xD9, 0xED], .fldln2), ([0xD9, 0xEE], .fldz),
    ([0xD9, 0xF6], .fdecstp), ([0xD9, 0xF7], .fincstp), ([0xD9, 0xFA], .fsqrt), ([0xD9, 0xFC], .frndint),
    ([0xDB, 0xE2], .fnclex), ([0xDB, 0xE3], .fninit), ([0xDE, 0xD9], .fcompp), ([0xDF, 0xE0], .fnstswAx)] = true := by decide

/-- The prefix rows, and a later prefix of a class replacing an earlier one (30_encoding R123, R131). -/
theorem test_decode_PFX : decodeAll [([0x26, 0x8B, 0x07], .esPrefix (.movR16Rm16 .ax (.mem ⟨.es, .plain .bx⟩))),
    ([0x2E, 0xD7], .csPrefix (.xlat .cs)), ([0x36, 0xA4], .ssPrefix (.movsb .ss none)),
    ([0x3E, 0x8B, 0x46, 0x00], .dsPrefix (.movR16Rm16 .ax (.mem ⟨.ds, .disp8 .bp 0⟩))),
    ([0xF0, 0x01, 0xD8], .lockPrefix (.addRm16R16 (.reg .ax) .bx)), ([0xF2, 0xAE], .repnePrefix (.scasb (some .repne))),
    ([0xF3, 0xA5], .repPrefix (.movsw .ds (some .rep))), ([0xF2, 0xF3, 0xA4], .repnePrefix (.repPrefix (.movsb .ds (some .rep)))),
    ([0x2E, 0x36, 0x8B, 0x07], .csPrefix (.ssPrefix (.movR16Rm16 .ax (.mem ⟨.ss, .plain .bx⟩))))] = true := by decide

/-- Bytes that match no admitted instruction: the vectors `M12`, `M13`, `M20`, `L13`, `S17`, `J10` to `J12`, `J48`, `P10`, `G23`,
`X1` to `X21`. -/
theorem test_decode_invalid : ([[0x8E, 0xC8], [0x8C, 0xE0], [0x8D, 0xC0], [0xF6, 0xC8], [0xD0, 0xF0], [0xFF, 0xE8], [0xFF, 0xD8],
    [0xFF, 0xF8], [0x62, 0xC0], [0x8F, 0xC8], [0xF3, 0x90], [0x0F], [0xD6], [0x27], [0x37], [0xD4], [0xE4], [0xEE], [0x6C],
    [0x66], [0x82], [0xF1], [0x63], [0xFE, 0xD0], [0xC6, 0xC8], [0xC4, 0xC0], [0xDB, 0xE4], [0xD9, 0xF2], [0xD9, 0x0E],
    [0xDF, 0xE1]] : List (List Byte)).all isInvalid = true := by decide

/-- The table's words as the host numbers them: bit 0 is the least significant bit of the first byte. -/
theorem test_decode_table_word : decodeTableWord 8 0x90 = some .nop ∧ decodeTableWord 16 0xD801 = some (.addRm16R16 (.reg .ax) .bx)
    ∧ decodeTableWord 8 0xB8 = some (.movR16Imm16 .ax 0) ∧ decodeTableWord 16 0x308F = none := by decide

/-! ## Steps: vectors of 95_test_vectors.md and 96_test_vectors_x87.md -/

/-- The state that the vectors start in: `CS` = 1000, `DS` = 2000, `SS` = 3000, `ES` = 4000, `IP` = `SP` = 0100, four
segments of 65536 zero bytes, everything else as after reset. -/
def start : State := { State.reset with
  gpr := { State.reset.gpr with sp := 0x0100 }
  sreg := { es := 0x4000, cs := 0x1000, ss := 0x3000, ds := 0x2000 }
  ip := 0x0100
  mem := { segs := [(0x1000, 65536), (0x2000, 65536), (0x3000, 65536), (0x4000, 65536)], cells := [] } }

/-- The same, with the flags of an image, bytes at an address, and values on the Floating-Point Stack, `ST(0)` first. -/
def startWith (flags : Word) (at_ : List (Word × Word × List Byte)) (st : List F80) : State := { start with
  flags := Flags.ofImage flags
  mem := at_.foldl (fun m x => m.pokeList x.1 x.2.1 x.2.2) start.mem
  fpu := st.foldr (fun v u => u.push v) start.fpu }

/-- What one step of the bytes at `CS:IP` answers satisfies `p`. -/
noncomputable def runs (bs : List Byte) (s : State) (p : State → Bool) : Bool :=
  match step { s with mem := s.mem.pokeList s.sreg.cs s.ip bs } with
  | .next t => p t
  | _ => false

/-- One step of the bytes at `CS:IP` faults so. -/
noncomputable def stops (bs : List Byte) (s : State) (f : Fault) : Bool :=
  match step { s with mem := s.mem.pokeList s.sreg.cs s.ip bs } with
  | .fault g => decide (g = f)
  | _ => false

/-- The bytes of memory from an address on are these. -/
def holds (s : State) (sel off : Word) (bs : List Byte) : Bool :=
  (List.range bs.length).all (fun k => some (s.mem.peek sel (off + BitVec.ofNat 16 k)) == bs[k]?)

theorem test_mov_M1 : runs [0xB8, 0x34, 0x12]
    start
    (fun t => t.gpr.ax == 0x1234 && t.ip == 0x0103) = true := by decide

theorem test_mov_M2 : runs [0xB4, 0xAB]
    { start with gpr := { start.gpr with ax := 0x1234 } }
    (fun t => t.gpr.ax == 0xAB34 && t.ip == 0x0102) = true := by decide

theorem test_mov_M3 : runs [0x8B, 0x40, 0xFE]
    { startWith 0x0002 [(0x2000, 0x020E, [0xCD, 0xAB])] [] with gpr := { start.gpr with bx := 0x0200, si := 0x0010 } }
    (fun t => t.gpr.ax == 0xABCD && t.ip == 0x0103) = true := by decide

theorem test_mov_M4 : runs [0x8B, 0x46, 0x02]
    { startWith 0x0002 [(0x3000, 0x0082, [0xEF, 0xBE])] [] with gpr := { start.gpr with bp := 0x0080 } }
    (fun t => t.gpr.ax == 0xBEEF && t.ip == 0x0103) = true := by decide

theorem test_mov_M6 : runs [0x89, 0x0E, 0xFF, 0xFF]
    { start with gpr := { start.gpr with cx := 0xA1B2 } }
    (fun t => t.ip == 0x0104 && holds t 0x2000 0x0000 [0xA1] && holds t 0x2000 0xFFFF [0xB2]) = true := by decide

theorem test_mov_M9 : runs [0xA3, 0x10, 0x00]
    { start with gpr := { start.gpr with ax := 0xBEEF } }
    (fun t => t.ip == 0x0103 && holds t 0x2000 0x0010 [0xEF, 0xBE]) = true := by decide

theorem test_mov_M10 : runs [0x8E, 0xD8]
    { start with gpr := { start.gpr with ax := 0x4000 } }
    (fun t => t.sreg.ds == 0x4000 && t.ip == 0x0102) = true := by decide

theorem test_mov_M11 : runs [0x8C, 0xC8]
    start
    (fun t => t.gpr.ax == 0x1000 && t.ip == 0x0102) = true := by decide

theorem test_xchg_M14 : runs [0x87, 0xD9]
    { start with gpr := { start.gpr with cx := 0x2222, bx := 0x1111 } }
    (fun t => t.gpr.cx == 0x1111 && t.gpr.bx == 0x2222 && t.ip == 0x0102) = true := by decide

theorem test_xchg_M15 : runs [0x86, 0x06, 0x10, 0x00]
    { startWith 0x0002 [(0x2000, 0x0010, [0xCD])] [] with gpr := { start.gpr with ax := 0x12AB } }
    (fun t => t.gpr.ax == 0x12CD && t.ip == 0x0104 && holds t 0x2000 0x0010 [0xAB]) = true := by decide

theorem test_nop_M17 : runs [0x90]
    start
    (fun t => t.ip == 0x0101) = true := by decide

theorem test_lea_M18 : runs [0x8D, 0x40, 0xFE]
    { start with gpr := { start.gpr with bx := 0x0001 } }
    (fun t => t.gpr.ax == 0xFFFF && t.ip == 0x0103) = true := by decide

theorem test_lea_M19 : runs [0x8D, 0x87, 0x00, 0x80]
    { start with gpr := { start.gpr with bx := 0x9000 } }
    (fun t => t.gpr.ax == 0x1000 && t.ip == 0x0104) = true := by decide

theorem test_lds_M21 : runs [0xC5, 0x1E, 0x20, 0x00]
    (startWith 0x0002 [(0x2000, 0x0020, [0x78, 0x56, 0x00, 0x40])] [])
    (fun t => t.gpr.bx == 0x5678 && t.sreg.ds == 0x4000 && t.ip == 0x0104) = true := by decide

theorem test_les_M22 : runs [0xC4, 0x3E, 0x20, 0x00]
    (startWith 0x0002 [(0x2000, 0x0020, [0x78, 0x56, 0x00, 0x30])] [])
    (fun t => t.gpr.di == 0x5678 && t.sreg.es == 0x3000 && t.ip == 0x0104) = true := by decide

theorem test_xlat_M24 : runs [0xD7]
    { startWith 0x0002 [(0x2000, 0x0001, [0xA5])] [] with gpr := { start.gpr with ax := 0x0002, bx := 0xFFFF } }
    (fun t => t.gpr.ax == 0x00A5 && t.ip == 0x0101) = true := by decide

theorem test_lahf_M25 : runs [0x9F]
    (startWith 0x08D7 [] [])
    (fun t => t.gpr.ax == 0xD700 && t.ip == 0x0101) = true := by decide

theorem test_sahf_M26 : runs [0x9E]
    { startWith 0x0802 [] [] with gpr := { start.gpr with ax := 0xFF00 } }
    (fun t => t.ip == 0x0101 && t.flags.image == 0x08D7) = true := by decide

theorem test_cbw_M28 : runs [0x98]
    { start with gpr := { start.gpr with ax := 0x1280 } }
    (fun t => t.gpr.ax == 0xFF80 && t.ip == 0x0101) = true := by decide

theorem test_cwd_M30 : runs [0x99]
    { start with gpr := { start.gpr with ax := 0x8000 } }
    (fun t => t.gpr.dx == 0xFFFF && t.ip == 0x0101) = true := by decide

theorem test_add_A2 : runs [0x00, 0xD8]
    { start with gpr := { start.gpr with ax := 0x007F, bx := 0x0001 } }
    (fun t => t.gpr.ax == 0x0080 && t.ip == 0x0102 && t.flags.image == 0x0892) = true := by decide

theorem test_add_A9 : runs [0x83, 0x06, 0x10, 0x00, 0x01]
    (startWith 0x0002 [(0x2000, 0x0010, [0xFF, 0xFF])] [])
    (fun t => t.ip == 0x0105 && holds t 0x2000 0x0010 [0x00, 0x00] && t.flags.image == 0x0057) = true := by decide

theorem test_adc_A10 : runs [0x10, 0xD8]
    { startWith 0x0003 [] [] with gpr := { start.gpr with ax := 0x00FF } }
    (fun t => t.gpr.ax == 0x0000 && t.ip == 0x0102 && t.flags.image == 0x0057) = true := by decide

theorem test_sub_A13 : runs [0x28, 0xD8]
    { start with gpr := { start.gpr with bx := 0x0001 } }
    (fun t => t.gpr.ax == 0x00FF && t.ip == 0x0102 && t.flags.image == 0x0097) = true := by decide

theorem test_sbb_A18 : runs [0x19, 0xD8]
    (startWith 0x0003 [] [])
    (fun t => t.gpr.ax == 0xFFFF && t.ip == 0x0102 && t.flags.image == 0x0097) = true := by decide

theorem test_cmp_A20 : runs [0x39, 0xD8]
    { start with gpr := { start.gpr with ax := 0x0001, bx := 0x0002 } }
    (fun t => t.ip == 0x0102 && t.flags.image == 0x0097) = true := by decide

theorem test_cmp_A22 : runs [0x80, 0x3E, 0x10, 0x00, 0x80]
    (startWith 0x0002 [(0x2000, 0x0010, [0x7F])] [])
    (fun t => t.ip == 0x0105 && t.flags.image == 0x0887) = true := by decide

theorem test_inc_A23 : runs [0x40]
    { startWith 0x0003 [] [] with gpr := { start.gpr with ax := 0xFFFF } }
    (fun t => t.gpr.ax == 0x0000 && t.ip == 0x0101 && t.flags.image == 0x0057) = true := by decide

theorem test_dec_A26 : runs [0x48]
    start
    (fun t => t.gpr.ax == 0xFFFF && t.ip == 0x0101 && t.flags.image == 0x0096) = true := by decide

theorem test_neg_A30 : runs [0xF6, 0xD8]
    { start with gpr := { start.gpr with ax := 0x0080 } }
    (fun t => t.ip == 0x0102 && t.flags.image == 0x0883) = true := by decide

theorem test_neg_A32 : runs [0xF7, 0xD8]
    { start with gpr := { start.gpr with ax := 0x0001 } }
    (fun t => t.gpr.ax == 0xFFFF && t.ip == 0x0102 && t.flags.image == 0x0097) = true := by decide

theorem test_mul_A33 : runs [0xF6, 0xE3]
    { start with gpr := { start.gpr with ax := 0x00FF, bx := 0x00FF } }
    (fun t => t.gpr.ax == 0xFE01 && t.ip == 0x0102 && t.flags.CF && t.flags.OF) = true := by decide

theorem test_imul_A39 : runs [0xF7, 0xEB]
    { start with gpr := { start.gpr with ax := 0x4000, bx := 0x0002 } }
    (fun t => t.gpr.ax == 0x8000 && t.ip == 0x0102 && t.flags.CF && t.flags.OF) = true := by decide

theorem test_imul_A43 : runs [0x6B, 0xC3, 0xFF]
    { start with gpr := { start.gpr with bx := 0x8000 } }
    (fun t => t.gpr.ax == 0x8000 && t.ip == 0x0103 && t.flags.CF && t.flags.OF) = true := by decide

theorem test_div_A44 : runs [0xF6, 0xF3]
    { start with gpr := { start.gpr with ax := 0x0064, bx := 0x0007 } }
    (fun t => t.gpr.ax == 0x020E && t.ip == 0x0102) = true := by decide

theorem test_div_A45 : runs [0xF7, 0xF3]
    { start with gpr := { start.gpr with dx := 0x0001, bx := 0x0100 } }
    (fun t => t.gpr.ax == 0x0100 && t.gpr.dx == 0x0000 && t.ip == 0x0102) = true := by decide

theorem test_idiv_A49 : runs [0xF6, 0xFB]
    { start with gpr := { start.gpr with ax := 0xFFF9, bx := 0x0002 } }
    (fun t => t.gpr.ax == 0xFFFD && t.ip == 0x0102) = true := by decide

theorem test_and_L1 : runs [0x20, 0xD8]
    { startWith 0x0803 [] [] with gpr := { start.gpr with ax := 0x00F0, bx := 0x003C } }
    (fun t => t.gpr.ax == 0x0030 && t.ip == 0x0102 && !t.flags.CF && t.flags.PF && !t.flags.ZF && !t.flags.SF && !t.flags.OF) = true := by decide

theorem test_or_L2 : runs [0x09, 0xD8]
    { start with gpr := { start.gpr with ax := 0x8000, bx := 0x0001 } }
    (fun t => t.gpr.ax == 0x8001 && t.ip == 0x0102 && !t.flags.CF && !t.flags.PF && !t.flags.ZF && t.flags.SF && !t.flags.OF) = true := by decide

theorem test_xor_L3 : runs [0x31, 0xC0]
    { startWith 0x0883 [] [] with gpr := { start.gpr with ax := 0xBEEF } }
    (fun t => t.gpr.ax == 0x0000 && t.ip == 0x0102 && !t.flags.CF && t.flags.PF && t.flags.ZF && !t.flags.SF && !t.flags.OF) = true := by decide

theorem test_not_L7 : runs [0xF7, 0xD0]
    { startWith 0x08D7 [] [] with gpr := { start.gpr with ax := 0x00FF } }
    (fun t => t.gpr.ax == 0xFF00 && t.ip == 0x0102 && t.flags.image == 0x08D7) = true := by decide

theorem test_test_L10 : runs [0xA8, 0x80]
    { start with gpr := { start.gpr with ax := 0x0080 } }
    (fun t => t.ip == 0x0102 && !t.flags.CF && !t.flags.PF && !t.flags.ZF && t.flags.SF && !t.flags.OF) = true := by decide

theorem test_test_L12 : runs [0xF7, 0x06, 0x10, 0x00, 0x00, 0x80]
    (startWith 0x0002 [(0x2000, 0x0010, [0xFF, 0xFF])] [])
    (fun t => t.ip == 0x0106 && !t.flags.CF && t.flags.PF && !t.flags.ZF && t.flags.SF && !t.flags.OF) = true := by decide

theorem test_shl_S1 : runs [0xD1, 0xE0]
    { start with gpr := { start.gpr with ax := 0x8000 } }
    (fun t => t.gpr.ax == 0x0000 && t.ip == 0x0102 && t.flags.CF && t.flags.PF && t.flags.ZF && !t.flags.SF && t.flags.OF) = true := by decide

theorem test_shl_S7 : runs [0xD2, 0xE0]
    { startWith 0x08D7 [] [] with gpr := { start.gpr with ax := 0x0081, cx := 0x0020 } }
    (fun t => t.ip == 0x0102 && t.flags.image == 0x08D7) = true := by decide

theorem test_shr_S9 : runs [0xD1, 0xE8]
    { start with gpr := { start.gpr with ax := 0x8001 } }
    (fun t => t.gpr.ax == 0x4000 && t.ip == 0x0102 && t.flags.CF && t.flags.PF && !t.flags.ZF && !t.flags.SF && t.flags.OF) = true := by decide

theorem test_sar_S12 : runs [0xD1, 0xF8]
    { start with gpr := { start.gpr with ax := 0x8001 } }
    (fun t => t.gpr.ax == 0xC000 && t.ip == 0x0102 && t.flags.CF && t.flags.PF && !t.flags.ZF && t.flags.SF && !t.flags.OF) = true := by decide

theorem test_sar_S14 : runs [0xC1, 0xF8, 0x1F]
    { start with gpr := { start.gpr with ax := 0x8000 } }
    (fun t => t.gpr.ax == 0xFFFF && t.ip == 0x0103 && t.flags.CF && t.flags.PF && !t.flags.ZF && t.flags.SF) = true := by decide

theorem test_rol_T2 : runs [0xC1, 0xC0, 0x04]
    { start with gpr := { start.gpr with ax := 0x1234 } }
    (fun t => t.gpr.ax == 0x2341 && t.ip == 0x0103 && t.flags.CF && !t.flags.PF && !t.flags.AF && !t.flags.ZF && !t.flags.SF) = true := by decide

theorem test_ror_T5 : runs [0xC1, 0xC8, 0x10]
    { startWith 0x0003 [] [] with gpr := { start.gpr with ax := 0x0001 } }
    (fun t => t.ip == 0x0103 && !t.flags.CF && !t.flags.PF && !t.flags.AF && !t.flags.ZF && !t.flags.SF) = true := by decide

theorem test_rcl_T11 : runs [0xC0, 0xD0, 0x04]
    { startWith 0x0003 [] [] with gpr := { start.gpr with ax := 0x0012 } }
    (fun t => t.gpr.ax == 0x0028 && t.ip == 0x0103 && t.flags.CF && !t.flags.PF && !t.flags.AF && !t.flags.ZF && !t.flags.SF) = true := by decide

theorem test_rcr_T15 : runs [0xC0, 0xD8, 0x04]
    { startWith 0x0003 [] [] with gpr := { start.gpr with ax := 0x0012 } }
    (fun t => t.gpr.ax == 0x0051 && t.ip == 0x0103 && !t.flags.CF && !t.flags.PF && !t.flags.AF && !t.flags.ZF && !t.flags.SF) = true := by decide

theorem test_jmp_J3 : runs [0xEB, 0x80]
    start
    (fun t => t.ip == 0x0082) = true := by decide

theorem test_jmp_J4 : runs [0xE9, 0x00, 0xFF]
    { start with ip := 0xFFF0 }
    (fun t => t.ip == 0xFEF3) = true := by decide

theorem test_jmp_J7 : runs [0xFF, 0x26, 0x10, 0x00]
    (startWith 0x0002 [(0x2000, 0x0010, [0x00, 0x02])] [])
    (fun t => t.ip == 0x0200) = true := by decide

theorem test_jmp_J9 : runs [0xFF, 0x2E, 0x10, 0x00]
    (startWith 0x0002 [(0x2000, 0x0010, [0x34, 0x12, 0x00, 0x40])] [])
    (fun t => t.sreg.cs == 0x4000 && t.ip == 0x1234) = true := by decide

theorem test_jo_K1 : ([0x0802, 0x0882, 0x08C2, 0x0842] : List Word).all (fun f => runs [0x70, 0x10] (startWith f [] []) (fun t => t.ip == 0x0112))
    && ([0x0002, 0x0003, 0x0042, 0x0043, 0x0082, 0x0006] : List Word).all (fun f => runs [0x70, 0x10] (startWith f [] []) (fun t => t.ip == 0x0102)) = true := by decide

theorem test_jno_K2 : ([0x0002, 0x0003, 0x0042, 0x0043, 0x0082, 0x0006] : List Word).all (fun f => runs [0x71, 0x10] (startWith f [] []) (fun t => t.ip == 0x0112))
    && ([0x0802, 0x0882, 0x08C2, 0x0842] : List Word).all (fun f => runs [0x71, 0x10] (startWith f [] []) (fun t => t.ip == 0x0102)) = true := by decide

theorem test_jb_K3 : ([0x0003, 0x0043] : List Word).all (fun f => runs [0x72, 0x10] (startWith f [] []) (fun t => t.ip == 0x0112))
    && ([0x0002, 0x0042, 0x0082, 0x0802, 0x0882, 0x0006, 0x08C2, 0x0842] : List Word).all (fun f => runs [0x72, 0x10] (startWith f [] []) (fun t => t.ip == 0x0102)) = true := by decide

theorem test_jnb_K4 : ([0x0002, 0x0042, 0x0082, 0x0802, 0x0882, 0x0006, 0x08C2, 0x0842] : List Word).all (fun f => runs [0x73, 0x10] (startWith f [] []) (fun t => t.ip == 0x0112))
    && ([0x0003, 0x0043] : List Word).all (fun f => runs [0x73, 0x10] (startWith f [] []) (fun t => t.ip == 0x0102)) = true := by decide

theorem test_jz_K5 : ([0x0042, 0x0043, 0x08C2, 0x0842] : List Word).all (fun f => runs [0x74, 0x10] (startWith f [] []) (fun t => t.ip == 0x0112))
    && ([0x0002, 0x0003, 0x0082, 0x0802, 0x0882, 0x0006] : List Word).all (fun f => runs [0x74, 0x10] (startWith f [] []) (fun t => t.ip == 0x0102)) = true := by decide

theorem test_jnz_K6 : ([0x0002, 0x0003, 0x0082, 0x0802, 0x0882, 0x0006] : List Word).all (fun f => runs [0x75, 0x10] (startWith f [] []) (fun t => t.ip == 0x0112))
    && ([0x0042, 0x0043, 0x08C2, 0x0842] : List Word).all (fun f => runs [0x75, 0x10] (startWith f [] []) (fun t => t.ip == 0x0102)) = true := by decide

theorem test_jbe_K7 : ([0x0003, 0x0042, 0x0043, 0x08C2, 0x0842] : List Word).all (fun f => runs [0x76, 0x10] (startWith f [] []) (fun t => t.ip == 0x0112))
    && ([0x0002, 0x0082, 0x0802, 0x0882, 0x0006] : List Word).all (fun f => runs [0x76, 0x10] (startWith f [] []) (fun t => t.ip == 0x0102)) = true := by decide

theorem test_jnbe_K8 : ([0x0002, 0x0082, 0x0802, 0x0882, 0x0006] : List Word).all (fun f => runs [0x77, 0x10] (startWith f [] []) (fun t => t.ip == 0x0112))
    && ([0x0003, 0x0042, 0x0043, 0x08C2, 0x0842] : List Word).all (fun f => runs [0x77, 0x10] (startWith f [] []) (fun t => t.ip == 0x0102)) = true := by decide

theorem test_js_K9 : ([0x0082, 0x0882, 0x08C2] : List Word).all (fun f => runs [0x78, 0x10] (startWith f [] []) (fun t => t.ip == 0x0112))
    && ([0x0002, 0x0003, 0x0042, 0x0043, 0x0802, 0x0006, 0x0842] : List Word).all (fun f => runs [0x78, 0x10] (startWith f [] []) (fun t => t.ip == 0x0102)) = true := by decide

theorem test_jns_K10 : ([0x0002, 0x0003, 0x0042, 0x0043, 0x0802, 0x0006, 0x0842] : List Word).all (fun f => runs [0x79, 0x10] (startWith f [] []) (fun t => t.ip == 0x0112))
    && ([0x0082, 0x0882, 0x08C2] : List Word).all (fun f => runs [0x79, 0x10] (startWith f [] []) (fun t => t.ip == 0x0102)) = true := by decide

theorem test_jp_K11 : ([0x0006] : List Word).all (fun f => runs [0x7A, 0x10] (startWith f [] []) (fun t => t.ip == 0x0112))
    && ([0x0002, 0x0003, 0x0042, 0x0043, 0x0082, 0x0802, 0x0882, 0x08C2, 0x0842] : List Word).all (fun f => runs [0x7A, 0x10] (startWith f [] []) (fun t => t.ip == 0x0102)) = true := by decide

theorem test_jnp_K12 : ([0x0002, 0x0003, 0x0042, 0x0043, 0x0082, 0x0802, 0x0882, 0x08C2, 0x0842] : List Word).all (fun f => runs [0x7B, 0x10] (startWith f [] []) (fun t => t.ip == 0x0112))
    && ([0x0006] : List Word).all (fun f => runs [0x7B, 0x10] (startWith f [] []) (fun t => t.ip == 0x0102)) = true := by decide

theorem test_jl_K13 : ([0x0082, 0x0802, 0x0842] : List Word).all (fun f => runs [0x7C, 0x10] (startWith f [] []) (fun t => t.ip == 0x0112))
    && ([0x0002, 0x0003, 0x0042, 0x0043, 0x0882, 0x0006, 0x08C2] : List Word).all (fun f => runs [0x7C, 0x10] (startWith f [] []) (fun t => t.ip == 0x0102)) = true := by decide

theorem test_jnl_K14 : ([0x0002, 0x0003, 0x0042, 0x0043, 0x0882, 0x0006, 0x08C2] : List Word).all (fun f => runs [0x7D, 0x10] (startWith f [] []) (fun t => t.ip == 0x0112))
    && ([0x0082, 0x0802, 0x0842] : List Word).all (fun f => runs [0x7D, 0x10] (startWith f [] []) (fun t => t.ip == 0x0102)) = true := by decide

theorem test_jle_K15 : ([0x0042, 0x0043, 0x0082, 0x0802, 0x08C2, 0x0842] : List Word).all (fun f => runs [0x7E, 0x10] (startWith f [] []) (fun t => t.ip == 0x0112))
    && ([0x0002, 0x0003, 0x0882, 0x0006] : List Word).all (fun f => runs [0x7E, 0x10] (startWith f [] []) (fun t => t.ip == 0x0102)) = true := by decide

theorem test_jnle_K16 : ([0x0002, 0x0003, 0x0882, 0x0006] : List Word).all (fun f => runs [0x7F, 0x10] (startWith f [] []) (fun t => t.ip == 0x0112))
    && ([0x0042, 0x0043, 0x0082, 0x0802, 0x08C2, 0x0842] : List Word).all (fun f => runs [0x7F, 0x10] (startWith f [] []) (fun t => t.ip == 0x0102)) = true := by decide

theorem test_loop_J15 : runs [0xE2, 0xFE]
    start
    (fun t => t.gpr.cx == 0xFFFF && t.ip == 0x0100) = true := by decide

theorem test_loope_J18 : runs [0xE1, 0x10]
    { startWith 0x0042 [] [] with gpr := { start.gpr with cx := 0x0001 } }
    (fun t => t.gpr.cx == 0x0000 && t.ip == 0x0102) = true := by decide

theorem test_loopne_J21 : runs [0xE0, 0x10]
    { start with gpr := { start.gpr with cx := 0x0001 } }
    (fun t => t.gpr.cx == 0x0000 && t.ip == 0x0102) = true := by decide

theorem test_jcxz_J22 : runs [0xE3, 0x10]
    start
    (fun t => t.ip == 0x0112) = true := by decide

theorem test_call_J27 : runs [0xFF, 0xD4]
    start
    (fun t => t.gpr.sp == 0x00FE && t.ip == 0x0100 && holds t 0x3000 0x00FE [0x02, 0x01]) = true := by decide

theorem test_call_J29 : runs [0xFF, 0x1E, 0x10, 0x00]
    (startWith 0x0002 [(0x2000, 0x0010, [0x00, 0x02, 0x00, 0x40])] [])
    (fun t => t.gpr.sp == 0x00FC && t.sreg.cs == 0x4000 && t.ip == 0x0200 && holds t 0x3000 0x00FC [0x04, 0x01] && holds t 0x3000 0x00FF [0x10]) = true := by decide

theorem test_ret_J34 : runs [0xC2, 0x04, 0x00]
    { startWith 0x0002 [(0x3000, 0x00FE, [0x34, 0x12])] [] with gpr := { start.gpr with sp := 0x00FE } }
    (fun t => t.gpr.sp == 0x0104 && t.ip == 0x1234) = true := by decide

theorem test_retf_J37 : runs [0xCA, 0x02, 0x00]
    { startWith 0x0002 [(0x3000, 0x00FC, [0x05, 0x01, 0x00, 0x40])] [] with gpr := { start.gpr with sp := 0x00FC } }
    (fun t => t.gpr.sp == 0x0102 && t.sreg.cs == 0x4000 && t.ip == 0x0105) = true := by decide

theorem test_iret_J38 : runs [0xCF]
    { startWith 0x0002 [(0x3000, 0x00FA, [0x00, 0x02, 0x00, 0x40, 0xD7, 0xFF])] [] with gpr := { start.gpr with sp := 0x00FA } }
    (fun t => t.gpr.sp == 0x0100 && t.sreg.cs == 0x4000 && t.ip == 0x0200 && t.flags.image == 0x0FD7) = true := by decide

theorem test_iret_J39 : runs [0xCF]
    { startWith 0x0FD7 [(0x3000, 0x00FA, [0x00, 0x02, 0x00, 0x40, 0x00, 0x00])] [] with gpr := { start.gpr with sp := 0x00FA } }
    (fun t => t.gpr.sp == 0x0100 && t.sreg.cs == 0x4000 && t.ip == 0x0200 && t.flags.image == 0x0002) = true := by decide

theorem test_into_J43 : runs [0xCE]
    start
    (fun t => t.ip == 0x0101) = true := by decide

theorem test_bound_J47 : runs [0x62, 0x06, 0x10, 0x00]
    { startWith 0x0002 [(0x2000, 0x0010, [0xFE, 0xFF, 0x01, 0x00])] [] with gpr := { start.gpr with ax := 0xFFFF } }
    (fun t => t.ip == 0x0104) = true := by decide

theorem test_push_P2 : runs [0x54]
    start
    (fun t => t.gpr.sp == 0x00FE && t.ip == 0x0101 && holds t 0x3000 0x00FF [0x01]) = true := by decide

theorem test_push_P4 : runs [0x6A, 0xFF]
    start
    (fun t => t.gpr.sp == 0x00FE && t.ip == 0x0102 && holds t 0x3000 0x00FE [0xFF, 0xFF]) = true := by decide

theorem test_pop_P3 : runs [0x5C]
    { startWith 0x0002 [(0x3000, 0x00FE, [0x00, 0x05])] [] with gpr := { start.gpr with sp := 0x00FE } }
    (fun t => t.gpr.sp == 0x0500 && t.ip == 0x0101) = true := by decide

theorem test_pop_P9 : runs [0x8F, 0x46, 0x00]
    { startWith 0x0002 [(0x3000, 0x00FE, [0xCD, 0xAB])] [] with gpr := { start.gpr with sp := 0x00FE, bp := 0x0010 } }
    (fun t => t.gpr.sp == 0x0100 && t.ip == 0x0103 && holds t 0x3000 0x0010 [0xCD, 0xAB]) = true := by decide

theorem test_push_P11 : runs [0x0E]
    start
    (fun t => t.gpr.sp == 0x00FE && t.ip == 0x0101 && holds t 0x3000 0x00FF [0x10]) = true := by decide

theorem test_pusha_P14 : runs [0x60]
    { start with gpr := { start.gpr with ax := 0x1111, cx := 0x2222, dx := 0x3333, bx := 0x4444, bp := 0x5555, si := 0x6666, di := 0x7777 } }
    (fun t => t.gpr.sp == 0x00F0 && t.ip == 0x0101 && holds t 0x3000 0x00F0 [0x77, 0x77, 0x66, 0x66, 0x55, 0x55] && holds t 0x3000 0x00F7 [0x01, 0x44, 0x44, 0x33, 0x33, 0x22, 0x22, 0x11, 0x11]) = true := by decide

theorem test_popa_P15 : runs [0x61]
    { startWith 0x0002 [(0x3000, 0x00F0, [0x77, 0x77, 0x66, 0x66, 0x55, 0x55, 0xEE, 0xEE, 0x44, 0x44, 0x33, 0x33, 0x22, 0x22, 0x11, 0x11])] [] with gpr := { start.gpr with sp := 0x00F0 } }
    (fun t => t.gpr.ax == 0x1111 && t.gpr.cx == 0x2222 && t.gpr.dx == 0x3333 && t.gpr.bx == 0x4444 && t.gpr.sp == 0x0100 && t.gpr.bp == 0x5555 && t.gpr.si == 0x6666 && t.gpr.di == 0x7777 && t.ip == 0x0101) = true := by decide

theorem test_pushf_P16 : runs [0x9C]
    (startWith 0x0FD7 [] [])
    (fun t => t.gpr.sp == 0x00FE && t.ip == 0x0101 && holds t 0x3000 0x00FE [0xD7, 0x0F]) = true := by decide

theorem test_popf_P18 : runs [0x9D]
    { startWith 0x0002 [(0x3000, 0x00FE, [0xFF, 0xFF])] [] with gpr := { start.gpr with sp := 0x00FE } }
    (fun t => t.gpr.sp == 0x0100 && t.ip == 0x0101 && t.flags.image == 0x0FD7) = true := by decide

theorem test_enter_P21 : runs [0xC8, 0x04, 0x00, 0x01]
    { start with gpr := { start.gpr with bp := 0x0200 } }
    (fun t => t.gpr.sp == 0x00F8 && t.gpr.bp == 0x00FE && t.ip == 0x0104 && holds t 0x3000 0x00FC [0xFE] && holds t 0x3000 0x00FF [0x02]) = true := by decide

theorem test_leave_P22 : runs [0xC9]
    { startWith 0x0002 [(0x3000, 0x00FE, [0x00, 0x02])] [] with gpr := { start.gpr with sp := 0x00F0, bp := 0x00FE } }
    (fun t => t.gpr.sp == 0x0100 && t.gpr.bp == 0x0200 && t.ip == 0x0101) = true := by decide

theorem test_push_P23 : stops [0x50] { start with gpr := { start.gpr with sp := 0x0001 } } (.addressing 0x3000 0xFFFF) = true := by decide

theorem test_pop_P26 : runs [0x58]
    { startWith 0x0002 [(0x3000, 0xFFFE, [0x34, 0x12])] [] with gpr := { start.gpr with sp := 0xFFFE } }
    (fun t => t.gpr.ax == 0x1234 && t.gpr.sp == 0x0000 && t.ip == 0x0101) = true := by decide

theorem test_pop_P27 : stops [0x58] { start with gpr := { start.gpr with sp := 0xFFFF } } (.addressing 0x3000 0xFFFF) = true := by decide

theorem test_movsw_G2 : runs [0xA5]
    { startWith 0x0402 [(0x2000, 0x0010, [0x34, 0x12])] [] with gpr := { start.gpr with si := 0x0010, di := 0x0020 } }
    (fun t => t.gpr.si == 0x000E && t.gpr.di == 0x001E && t.ip == 0x0101 && holds t 0x4000 0x0020 [0x34, 0x12]) = true := by decide

theorem test_rep_G5 : runs [0xF3, 0xA4]
    { startWith 0x0002 [(0x2000, 0x0010, [0x01, 0x02, 0x03, 0x04, 0x05])] [] with gpr := { start.gpr with cx := 0x0004, si := 0x0010, di := 0x0011 }, sreg := { start.sreg with es := 0x2000 } }
    (fun t => t.gpr.cx == 0x0000 && t.gpr.si == 0x0014 && t.gpr.di == 0x0015 && t.ip == 0x0102 && holds t 0x2000 0x0011 [0x01, 0x01, 0x01, 0x01]) = true := by decide

theorem test_rep_G9 : runs [0xF3, 0xAB]
    { startWith 0x0402 [] [] with gpr := { start.gpr with ax := 0x1234, cx := 0x0002, di := 0x0010 } }
    (fun t => t.gpr.cx == 0x0000 && t.gpr.di == 0x000C && t.ip == 0x0102 && holds t 0x4000 0x000E [0x34, 0x12, 0x34, 0x12]) = true := by decide

theorem test_lodsw_G11 : runs [0xAD]
    { startWith 0x0002 [(0x2000, 0x0000, [0x12]), (0x2000, 0xFFFF, [0x34])] [] with gpr := { start.gpr with si := 0xFFFF } }
    (fun t => t.gpr.ax == 0x1234 && t.gpr.si == 0x0001 && t.ip == 0x0101) = true := by decide

theorem test_cmpsb_G13 : runs [0xA6]
    { startWith 0x0002 [(0x2000, 0x0010, [0x01]), (0x4000, 0x0020, [0x02])] [] with gpr := { start.gpr with si := 0x0010, di := 0x0020 } }
    (fun t => t.gpr.si == 0x0011 && t.gpr.di == 0x0021 && t.ip == 0x0101 && t.flags.image == 0x0097) = true := by decide

theorem test_repe_G14 : runs [0xF3, 0xA6]
    { startWith 0x0002 [(0x2000, 0x0010, [0x41, 0x42, 0x43, 0x44, 0x45]), (0x4000, 0x0020, [0x41, 0x42, 0x58, 0x44, 0x45])] [] with gpr := { start.gpr with cx := 0x0005, si := 0x0010, di := 0x0020 } }
    (fun t => t.gpr.cx == 0x0002 && t.gpr.si == 0x0013 && t.gpr.di == 0x0023 && t.ip == 0x0102 && t.flags.image == 0x0097) = true := by decide

theorem test_scasw_G18 : runs [0xAF]
    { startWith 0x0402 [(0x4000, 0x0020, [0x01, 0x00])] [] with gpr := { start.gpr with ax := 0x8000, di := 0x0020 } }
    (fun t => t.gpr.di == 0x001E && t.ip == 0x0101 && t.flags.image == 0x0C16) = true := by decide

theorem test_repne_G19 : runs [0xF2, 0xAE]
    { startWith 0x0002 [(0x4000, 0x0020, [0x68, 0x69, 0x00, 0x7A])] [] with gpr := { start.gpr with cx := 0xFFFF, di := 0x0020 } }
    (fun t => t.gpr.cx == 0xFFFC && t.gpr.di == 0x0023 && t.ip == 0x0102 && t.flags.image == 0x0046) = true := by decide

theorem test_clc_F1 : runs [0xF8]
    (startWith 0x0FD7 [] [])
    (fun t => t.ip == 0x0101 && t.flags.image == 0x0FD6) = true := by decide

theorem test_stc_F2 : runs [0xF9]
    start
    (fun t => t.ip == 0x0101 && t.flags.image == 0x0003) = true := by decide

theorem test_cmc_F3 : runs [0xF5]
    (startWith 0x0003 [] [])
    (fun t => t.ip == 0x0101 && t.flags.image == 0x0002) = true := by decide

theorem test_cmc_F4 : runs [0xF5]
    start
    (fun t => t.ip == 0x0101 && t.flags.image == 0x0003) = true := by decide

theorem test_cld_F5 : runs [0xFC]
    (startWith 0x0402 [] [])
    (fun t => t.ip == 0x0101 && t.flags.image == 0x0002) = true := by decide

theorem test_std_F6 : runs [0xFD]
    start
    (fun t => t.ip == 0x0101 && t.flags.image == 0x0402) = true := by decide

theorem test_cli_F7 : runs [0xFA]
    (startWith 0x0202 [] [])
    (fun t => t.ip == 0x0101 && t.flags.image == 0x0002) = true := by decide

theorem test_sti_F8 : runs [0xFB]
    start
    (fun t => t.ip == 0x0101 && t.flags.image == 0x0202) = true := by decide

theorem test_wait_F12 : runs [0x9B]
    start
    (fun t => t.ip == 0x0101) = true := by decide

theorem test_mov_X27 : stops [0x8B, 0x07] { start with gpr := { start.gpr with bx := 0x0010 }, sreg := { start.sreg with ds := 0x7777 } } (.addressing 0x7777 0x0010) = true := by decide

theorem test_mov_X32 : runs [0xB8, 0x34, 0x12]
    { start with ip := 0xFFFE }
    (fun t => t.gpr.ax == 0x1234 && t.ip == 0x0001) = true := by decide

theorem test_mov_X36 : runs [0x3E, 0x8B, 0x46, 0x00]
    { startWith 0x0002 [(0x2000, 0x0010, [0x11, 0x11]), (0x3000, 0x0010, [0x22, 0x22])] [] with gpr := { start.gpr with bp := 0x0010 } }
    (fun t => t.gpr.ax == 0x1111 && t.ip == 0x0104) = true := by decide

theorem test_mov_X37 : runs [0x2E, 0x36, 0x8B, 0x07]
    { startWith 0x0002 [(0x3000, 0x0010, [0x22, 0x22])] [] with gpr := { start.gpr with bx := 0x0010 } }
    (fun t => t.gpr.ax == 0x2222 && t.ip == 0x0104) = true := by decide

/-- `D3` FLD, `D4` FLD, `D9` FLD, `D11` FILD, `D13` FILD, `D17` FLD, `D18` FLD1, `D19` FLDL2T. -/
theorem test_x87_loads_1 :
    runs [0xDB, 0x2E, 0x00, 0x00]
    (startWith 0x0002 [(0x2000, 0x0000, [0x00, 0x00, 0x00, 0x00, 0x00, 0x00, 0x00, 0xC0, 0xFF, 0x3F])] [])
    (fun t => t.ip == 0x0104 && t.fpu.statusWord == 0x3800 && t.fpu.st 0 == 0x3FFFC000000000000000) = true
    ∧ runs [0xD9, 0x06, 0x00, 0x00]
    (startWith 0x0002 [(0x2000, 0x0000, [0x01, 0x00, 0x00, 0x00])] [])
    (fun t => t.ip == 0x0104 && t.fpu.statusWord == 0x3802 && t.fpu.st 0 == 0x3F6A8000000000000000) = true
    ∧ runs [0xDB, 0x2E, 0x00, 0x00]
    (startWith 0x0002 [(0x2000, 0x0000, [0x01, 0x00, 0x00, 0x00, 0x00, 0x00, 0x00, 0x00, 0xFF, 0x3F])] [])
    (fun t => t.ip == 0x0104 && t.fpu.statusWord == 0x3800 && t.fpu.st 0 == 0x3FFF0000000000000001) = true
    ∧ runs [0xDF, 0x06, 0x00, 0x00]
    (startWith 0x0002 [(0x2000, 0x0000, [0x00, 0x80])] [])
    (fun t => t.ip == 0x0104 && t.fpu.statusWord == 0x3800 && t.fpu.st 0 == 0xC00E8000000000000000) = true
    ∧ runs [0xDF, 0x2E, 0x00, 0x00]
    (startWith 0x0002 [(0x2000, 0x0000, [0xFF, 0xFF, 0xFF, 0xFF, 0xFF, 0xFF, 0xFF, 0x7F])] [])
    (fun t => t.ip == 0x0104 && t.fpu.statusWord == 0x3800 && t.fpu.st 0 == 0x403DFFFFFFFFFFFFFFFE) = true
    ∧ runs [0xD9, 0xC1]
    (startWith 0x0002 [] [0x3FFF8000000000000000, 0x40008000000000000000])
    (fun t => t.ip == 0x0102 && t.fpu.statusWord == 0x2800 && t.fpu.st 0 == 0x40008000000000000000 && t.fpu.st 1 == 0x3FFF8000000000000000) = true
    ∧ runs [0xD9, 0xE8]
    start
    (fun t => t.ip == 0x0102 && t.fpu.statusWord == 0x3800 && t.fpu.st 0 == 0x3FFF8000000000000000) = true
    ∧ runs [0xD9, 0xE9]
    start
    (fun t => t.ip == 0x0102 && t.fpu.statusWord == 0x3800 && t.fpu.st 0 == 0x4000D49A784BCD1B8AFE) = true := by
  decide +kernel

/-- `D21` FLDPI, `D24` FLDZ. -/
theorem test_x87_loads_2 :
    runs [0xD9, 0xEB]
    start
    (fun t => t.ip == 0x0102 && t.fpu.statusWord == 0x3800 && t.fpu.st 0 == 0x4000C90FDAA22168C235) = true
    ∧ runs [0xD9, 0xEE]
    start
    (fun t => t.ip == 0x0102 && t.fpu.statusWord == 0x3800 && t.fpu.st 0 == 0x00000000000000000000) = true := by
  decide +kernel

/-- `V13` FST, `V4` FSTP, `V5` FSTP, `V20` FST, `V21` FSTP. -/
theorem test_x87_stores :
    runs [0xD9, 0x16, 0x10, 0x00]
    (startWith 0x0002 [] [0x3F69C000000000000000])
    (fun t => t.ip == 0x0104 && holds t 0x2000 0x0010 [0x01] && t.fpu.statusWord == 0x3830 && t.fpu.st 0 == 0x3F69C000000000000000) = true
    ∧ runs [0xDD, 0x1E, 0x10, 0x00]
    (startWith 0x0002 [] [0x3FFDAAAAAAAAAAAAAAAB])
    (fun t => t.ip == 0x0104 && holds t 0x2000 0x0010 [0x55, 0x55, 0x55, 0x55, 0x55, 0x55, 0xD5, 0x3F] && t.fpu.statusWord == 0x0020 && !t.fpu.occupied 0) = true
    ∧ runs [0xDB, 0x3E, 0x10, 0x00]
    (startWith 0x0002 [] [0x3FFDAAAAAAAAAAAAAAAB])
    (fun t => t.ip == 0x0104 && holds t 0x2000 0x0010 [0xAB, 0xAA, 0xAA, 0xAA, 0xAA, 0xAA, 0xAA, 0xAA, 0xFD, 0x3F] && t.fpu.statusWord == 0x0000 && !t.fpu.occupied 0) = true
    ∧ runs [0xDD, 0xD1]
    (startWith 0x0002 [] [0x3FFFC000000000000000, 0x3FFF8000000000000000])
    (fun t => t.ip == 0x0102 && t.fpu.statusWord == 0x3000 && t.fpu.st 0 == 0x3FFFC000000000000000 && t.fpu.st 1 == 0x3FFFC000000000000000) = true
    ∧ runs [0xDD, 0xD9]
    (startWith 0x0002 [] [0x3FFFC000000000000000, 0x3FFF8000000000000000])
    (fun t => t.ip == 0x0102 && t.fpu.statusWord == 0x3800 && t.fpu.st 0 == 0x3FFFC000000000000000 && !t.fpu.occupied 1) = true := by
  decide +kernel

/-- `I5` FIST, `I11` FISTP, `I13` FISTP, `I21` FISTP, `I22` FISTP. -/
theorem test_x87_integer_stores :
    runs [0xDF, 0x16, 0x10, 0x00]
    (startWith 0x0002 [] [0xC000A000000000000000])
    (fun t => t.ip == 0x0104 && holds t 0x2000 0x0010 [0xFE, 0xFF] && t.fpu.statusWord == 0x3820 && t.fpu.st 0 == 0xC000A000000000000000) = true
    ∧ runs [0xDF, 0x1E, 0x10, 0x00]
    (startWith 0x0002 [] [0x400DFFFF000000000000])
    (fun t => t.ip == 0x0104 && holds t 0x2000 0x0011 [0x80] && t.fpu.statusWord == 0x0001 && !t.fpu.occupied 0) = true
    ∧ runs [0xDF, 0x1E, 0x10, 0x00]
    (startWith 0x0002 [] [0xC00E8000000000000000])
    (fun t => t.ip == 0x0104 && holds t 0x2000 0x0011 [0x80] && t.fpu.statusWord == 0x0000 && !t.fpu.occupied 0) = true
    ∧ runs [0xDF, 0x3E, 0x10, 0x00]
    (startWith 0x0002 [] [0x403DFFFFFFFFFFFFFFFE])
    (fun t => t.ip == 0x0104 && holds t 0x2000 0x0010 [0xFF, 0xFF, 0xFF, 0xFF, 0xFF, 0xFF, 0xFF, 0x7F] && t.fpu.statusWord == 0x0000 && !t.fpu.occupied 0) = true
    ∧ runs [0xDF, 0x3E, 0x10, 0x00]
    (startWith 0x0002 [] [0x403E8000000000000000])
    (fun t => t.ip == 0x0104 && holds t 0x2000 0x0017 [0x80] && t.fpu.statusWord == 0x0001 && !t.fpu.occupied 0) = true := by
  decide +kernel

/-- `N18` FADD, `N39` FMUL, `N66` FSQRT, `N22` FADDP, `N24` FIADD, `N27` FSUB, `N29` FSUB, `N31` FSUBP. -/
theorem test_x87_arithmetic_1 :
    runs [0xD8, 0xC1]
    (startWith 0x0002 [] [0x3FFF8000000000000000, 0x3FC08000000000000000])
    (fun t => t.ip == 0x0102 && t.fpu.statusWord == 0x3000 && t.fpu.st 0 == 0x3FFF8000000000000001 && t.fpu.st 1 == 0x3FC08000000000000000) = true
    ∧ runs [0xD8, 0xC9]
    (startWith 0x0002 [] [0x00000000000000000000, 0xFFFF8000000000000000])
    (fun t => t.ip == 0x0102 && t.fpu.statusWord == 0x3001 && t.fpu.st 0 == 0xFFFFC000000000000000 && t.fpu.st 1 == 0xFFFF8000000000000000) = true
    ∧ runs [0xD9, 0xFA]
    (startWith 0x0002 [] [0xBFFF8000000000000000])
    (fun t => t.ip == 0x0102 && t.fpu.statusWord == 0x3801 && t.fpu.st 0 == 0xFFFFC000000000000000) = true
    ∧ runs [0xDE, 0xC1]
    (startWith 0x0002 [] [0x3FFF8000000000000000, 0x40008000000000000000])
    (fun t => t.ip == 0x0102 && t.fpu.statusWord == 0x3800 && t.fpu.st 0 == 0x4000C000000000000000 && !t.fpu.occupied 1) = true
    ∧ runs [0xDA, 0x06, 0x00, 0x00]
    (startWith 0x0002 [(0x2000, 0x0000, [0x00, 0x00, 0x00, 0x80])] [0x3FFFC000000000000000])
    (fun t => t.ip == 0x0104 && t.fpu.statusWord == 0x3800 && t.fpu.st 0 == 0xC01DFFFFFFFD00000000) = true
    ∧ runs [0xD8, 0xE1]
    (startWith 0x0002 [] [0x3FFF8000000000000000, 0x4000C000000000000000])
    (fun t => t.ip == 0x0102 && t.fpu.statusWord == 0x3000 && t.fpu.st 0 == 0xC0008000000000000000 && t.fpu.st 1 == 0x4000C000000000000000) = true
    ∧ runs [0xDC, 0xE9]
    (startWith 0x0002 [] [0x3FFF8000000000000000, 0x4000C000000000000000])
    (fun t => t.ip == 0x0102 && t.fpu.statusWord == 0x3000 && t.fpu.st 0 == 0x3FFF8000000000000000 && t.fpu.st 1 == 0x40008000000000000000) = true
    ∧ runs [0xDE, 0xE9]
    (startWith 0x0002 [] [0x3FFF8000000000000000, 0x4000C000000000000000])
    (fun t => t.ip == 0x0102 && t.fpu.statusWord == 0x3800 && t.fpu.st 0 == 0x40008000000000000000 && !t.fpu.occupied 1) = true := by
  decide +kernel

/-- `N33` FISUB, `N28` FSUBR, `N30` FSUBR, `N32` FSUBRP, `N34` FISUBR, `N44` FMULP, `N45` FIMUL, `N46` FDIV. -/
theorem test_x87_arithmetic_2 :
    runs [0xDE, 0x26, 0x00, 0x00]
    (startWith 0x0002 [(0x2000, 0x0000, [0x03, 0x00])] [0x3FFF8000000000000000])
    (fun t => t.ip == 0x0104 && t.fpu.statusWord == 0x3800 && t.fpu.st 0 == 0xC0008000000000000000) = true
    ∧ runs [0xD8, 0xE9]
    (startWith 0x0002 [] [0x3FFF8000000000000000, 0x4000C000000000000000])
    (fun t => t.ip == 0x0102 && t.fpu.statusWord == 0x3000 && t.fpu.st 0 == 0x40008000000000000000 && t.fpu.st 1 == 0x4000C000000000000000) = true
    ∧ runs [0xDC, 0xE1]
    (startWith 0x0002 [] [0x3FFF8000000000000000, 0x4000C000000000000000])
    (fun t => t.ip == 0x0102 && t.fpu.statusWord == 0x3000 && t.fpu.st 0 == 0x3FFF8000000000000000 && t.fpu.st 1 == 0xC0008000000000000000) = true
    ∧ runs [0xDE, 0xE1]
    (startWith 0x0002 [] [0x3FFF8000000000000000, 0x4000C000000000000000])
    (fun t => t.ip == 0x0102 && t.fpu.statusWord == 0x3800 && t.fpu.st 0 == 0xC0008000000000000000 && !t.fpu.occupied 1) = true
    ∧ runs [0xDE, 0x2E, 0x00, 0x00]
    (startWith 0x0002 [(0x2000, 0x0000, [0x03, 0x00])] [0x3FFF8000000000000000])
    (fun t => t.ip == 0x0104 && t.fpu.statusWord == 0x3800 && t.fpu.st 0 == 0x40008000000000000000) = true
    ∧ runs [0xDE, 0xC9]
    (startWith 0x0002 [] [0x40008000000000000000, 0x4000C000000000000000])
    (fun t => t.ip == 0x0102 && t.fpu.statusWord == 0x3800 && t.fpu.st 0 == 0x4001C000000000000000 && !t.fpu.occupied 1) = true
    ∧ runs [0xDE, 0x0E, 0x00, 0x00]
    (startWith 0x0002 [(0x2000, 0x0000, [0x04, 0x00])] [0x3FFFC000000000000000])
    (fun t => t.ip == 0x0104 && t.fpu.statusWord == 0x3800 && t.fpu.st 0 == 0x4001C000000000000000) = true
    ∧ runs [0xD8, 0xF1]
    (startWith 0x0002 [] [0x3FFF8000000000000000, 0x4000C000000000000000])
    (fun t => t.ip == 0x0102 && t.fpu.statusWord == 0x3020 && t.fpu.st 0 == 0x3FFDAAAAAAAAAAAAAAAB && t.fpu.st 1 == 0x4000C000000000000000) = true := by
  decide +kernel

/-- `N53` FDIV, `N50` FDIVP, `N55` FIDIV, `N47` FDIVR, `N49` FDIVR, `N51` FDIVRP, `N56` FIDIVR, `N68` FCHS. -/
theorem test_x87_arithmetic_3 :
    runs [0xDC, 0x36, 0x00, 0x00]
    (startWith 0x0002 [(0x2000, 0x0000, [0x00, 0x00, 0x00, 0x00, 0x00, 0x00, 0x08, 0x40])] [0x3FFF8000000000000000])
    (fun t => t.ip == 0x0104 && t.fpu.statusWord == 0x3820 && t.fpu.st 0 == 0x3FFDAAAAAAAAAAAAA800) = true
    ∧ runs [0xDE, 0xF9]
    (startWith 0x0002 [] [0x4000C000000000000000, 0x3FFF8000000000000000])
    (fun t => t.ip == 0x0102 && t.fpu.statusWord == 0x3820 && t.fpu.st 0 == 0x3FFDAAAAAAAAAAAAAAAB && !t.fpu.occupied 1) = true
    ∧ runs [0xDE, 0x36, 0x00, 0x00]
    (startWith 0x0002 [(0x2000, 0x0000, [0x00, 0x00])] [0x3FFF8000000000000000])
    (fun t => t.ip == 0x0104 && t.fpu.statusWord == 0x3804 && t.fpu.st 0 == 0x7FFF8000000000000000) = true
    ∧ runs [0xD8, 0xF9]
    (startWith 0x0002 [] [0x3FFF8000000000000000, 0x4000C000000000000000])
    (fun t => t.ip == 0x0102 && t.fpu.statusWord == 0x3000 && t.fpu.st 0 == 0x4000C000000000000000 && t.fpu.st 1 == 0x4000C000000000000000) = true
    ∧ runs [0xDC, 0xF1]
    (startWith 0x0002 [] [0x40008000000000000000, 0x3FFF8000000000000000])
    (fun t => t.ip == 0x0102 && t.fpu.statusWord == 0x3000 && t.fpu.st 0 == 0x40008000000000000000 && t.fpu.st 1 == 0x40008000000000000000) = true
    ∧ runs [0xDE, 0xF1]
    (startWith 0x0002 [] [0x4000C000000000000000, 0x3FFF8000000000000000])
    (fun t => t.ip == 0x0102 && t.fpu.statusWord == 0x3800 && t.fpu.st 0 == 0x4000C000000000000000 && !t.fpu.occupied 1) = true
    ∧ runs [0xDE, 0x3E, 0x00, 0x00]
    (startWith 0x0002 [(0x2000, 0x0000, [0x01, 0x00])] [0x40008000000000000000])
    (fun t => t.ip == 0x0104 && t.fpu.statusWord == 0x3800 && t.fpu.st 0 == 0x3FFE8000000000000000) = true
    ∧ runs [0xD9, 0xE0]
    (startWith 0x0002 [] [0x00000000000000000000])
    (fun t => t.ip == 0x0102 && t.fpu.statusWord == 0x3800 && t.fpu.st 0 == 0x80000000000000000000) = true := by
  decide +kernel

/-- `N69` FABS, `N63` FSQRT. -/
theorem test_x87_arithmetic_4 :
    runs [0xD9, 0xE1]
    (startWith 0x0002 [] [0xBFFF8000000000000000])
    (fun t => t.ip == 0x0102 && t.fpu.statusWord == 0x3800 && t.fpu.st 0 == 0x3FFF8000000000000000) = true
    ∧ runs [0xD9, 0xFA]
    (startWith 0x0002 [] [0x40008000000000000000])
    (fun t => t.ip == 0x0102 && t.fpu.statusWord == 0x3820 && t.fpu.st 0 == 0x3FFFB504F333F9DE6484) = true := by
  decide +kernel

/-- `Q4` FCOM, `Q7` FCOMP, `Q12` FCOM, `Q14` FICOM, `Q18` FTST, `Q21` FTST. -/
theorem test_x87_compares :
    runs [0xDC, 0x16, 0x00, 0x00]
    (startWith 0x0002 [(0x2000, 0x0000, [0x00, 0x00, 0x00, 0x00, 0x00, 0x00, 0xF8, 0x3F])] [0x4000C000000000000000])
    (fun t => t.ip == 0x0104 && t.fpu.statusWord == 0x3800 && t.fpu.st 0 == 0x4000C000000000000000) = true
    ∧ runs [0xD8, 0xD9]
    (startWith 0x0002 [] [0x40008000000000000000, 0x3FFF8000000000000000])
    (fun t => t.ip == 0x0102 && t.fpu.statusWord == 0x3800 && t.fpu.st 0 == 0x3FFF8000000000000000 && !t.fpu.occupied 1) = true
    ∧ runs [0xD8, 0xD1]
    (startWith 0x0002 [] [0x7FFF8000000000000000, 0x7FFF8000000000000000])
    (fun t => t.ip == 0x0102 && t.fpu.statusWord == 0x7000 && t.fpu.st 0 == 0x7FFF8000000000000000 && t.fpu.st 1 == 0x7FFF8000000000000000) = true
    ∧ runs [0xDE, 0x16, 0x00, 0x00]
    (startWith 0x0002 [(0x2000, 0x0000, [0xFF, 0xFF])] [0xBFFF8000000000000000])
    (fun t => t.ip == 0x0104 && t.fpu.statusWord == 0x7800 && t.fpu.st 0 == 0xBFFF8000000000000000) = true
    ∧ runs [0xD9, 0xE4]
    (startWith 0x0002 [] [0xC0008000000000000000])
    (fun t => t.ip == 0x0102 && t.fpu.statusWord == 0x3900 && t.fpu.st 0 == 0xC0008000000000000000) = true
    ∧ runs [0xD9, 0xE4]
    (startWith 0x0002 [] [0x7FFFC000000000000000])
    (fun t => t.ip == 0x0102 && t.fpu.statusWord == 0x7D01 && t.fpu.st 0 == 0x7FFFC000000000000000) = true := by
  decide +kernel

/-- `E8` FXAM, `E5` FXAM. -/
theorem test_x87_examine :
    runs [0xD9, 0xE5]
    (startWith 0x0002 [] [0xFFFFA000000000000000])
    (fun t => t.ip == 0x0102 && t.fpu.statusWord == 0x3B00 && t.fpu.st 0 == 0xFFFFA000000000000000) = true
    ∧ runs [0xD9, 0xE5]
    start
    (fun t => t.ip == 0x0102 && t.fpu.statusWord == 0x4100 && !t.fpu.occupied 0) = true := by
  decide +kernel

/-- `U5` FRNDINT, `U9` FRNDINT. -/
theorem test_x87_round :
    runs [0xD9, 0xFC]
    (startWith 0x0002 [] [0xC000A000000000000000])
    (fun t => t.ip == 0x0102 && t.fpu.statusWord == 0x3820 && t.fpu.st 0 == 0xC0008000000000000000) = true
    ∧ runs [0xD9, 0xFC]
    (startWith 0x0002 [] [0xBFFD8000000000000000])
    (fun t => t.ip == 0x0102 && t.fpu.statusWord == 0x3820 && t.fpu.st 0 == 0x80000000000000000000) = true := by
  decide +kernel

/-- `W1` FXCH, `W4` FINCSTP, `W5` FDECSTP, `W7` FFREE, `W9` FNOP, `W15` FLDCW. -/
theorem test_x87_stack_control :
    runs [0xD9, 0xC9]
    (startWith 0x0002 [] [0x3FFF8000000000000000, 0x40008000000000000000])
    (fun t => t.ip == 0x0102 && t.fpu.statusWord == 0x3000 && t.fpu.st 0 == 0x40008000000000000000 && t.fpu.st 1 == 0x3FFF8000000000000000) = true
    ∧ runs [0xD9, 0xF7]
    (startWith 0x0002 [] [0x3FFF8000000000000000, 0x40008000000000000000])
    (fun t => t.ip == 0x0102 && t.fpu.statusWord == 0x3800 && t.fpu.st 0 == 0x40008000000000000000 && t.fpu.st 7 == 0x3FFF8000000000000000 && !t.fpu.occupied 1) = true
    ∧ runs [0xD9, 0xF6]
    start
    (fun t => t.ip == 0x0102 && t.fpu.statusWord == 0x3800 && !t.fpu.occupied 0) = true
    ∧ runs [0xDD, 0xC1]
    (startWith 0x0002 [] [0x3FFF8000000000000000, 0x40008000000000000000])
    (fun t => t.ip == 0x0102 && t.fpu.statusWord == 0x3000 && t.fpu.st 0 == 0x3FFF8000000000000000 && !t.fpu.occupied 1) = true
    ∧ runs [0xD9, 0xD0]
    (startWith 0x0002 [] [0x3FFF8000000000000000])
    (fun t => t.ip == 0x0102 && t.fpu.statusWord == 0x3800 && t.fpu.st 0 == 0x3FFF8000000000000000) = true
    ∧ runs [0xD9, 0x2E, 0x00, 0x00]
    (startWith 0x0002 [(0x2000, 0x0000, [0x00, 0x00])] [])
    (fun t => t.ip == 0x0104 && t.fpu.statusWord == 0x0000 && !t.fpu.occupied 0 && t.fpu.cw == 0x0000) = true := by
  decide +kernel

/-- `Y1` FADD, `Y2` FADD, `Y6` FST, `Y17` FADD. -/
theorem test_x87_nans :
    runs [0xD8, 0xC1]
    (startWith 0x0002 [] [0x7FFFA000000000000000, 0x3FFF8000000000000000])
    (fun t => t.ip == 0x0102 && t.fpu.statusWord == 0x3001 && t.fpu.st 0 == 0x7FFFE000000000000000 && t.fpu.st 1 == 0x3FFF8000000000000000) = true
    ∧ runs [0xD8, 0xC1]
    (startWith 0x0002 [] [0x7FFFC000000000000001, 0xFFFFC000000000000002])
    (fun t => t.ip == 0x0102 && t.fpu.statusWord == 0x3000 && t.fpu.st 0 == 0xFFFFC000000000000002 && t.fpu.st 1 == 0xFFFFC000000000000002) = true
    ∧ runs [0xD9, 0x16, 0x10, 0x00]
    (startWith 0x0002 [] [0x7FFFA000000000000000])
    (fun t => t.ip == 0x0104 && holds t 0x2000 0x0012 [0xE0, 0x7F] && t.fpu.statusWord == 0x3801 && t.fpu.st 0 == 0x7FFFA000000000000000) = true
    ∧ runs [0xD8, 0xC1]
    (startWith 0x0002 [] [0x3FFF8000000000000000, 0x00000000000000000001])
    (fun t => t.ip == 0x0102 && t.fpu.statusWord == 0x3022 && t.fpu.st 0 == 0x3FFF8000000000000000 && t.fpu.st 1 == 0x00000000000000000001) = true := by
  decide +kernel

/-! ## For each statement with hypotheses, states and operands that meet them, at the edges of their ranges -/

/-- A word in memory whose second byte wraps to offset 0 (20_memory R83). -/
def wrapped : Mem := ⟨.ds, .direct 0xFFFF⟩

/-- A state whose data segment has 256 bytes, as in `X24`. -/
def short : State := { start with mem := { start.mem with segs := [(0x1000, 65536), (0x2000, 256), (0x3000, 65536)] } }

/-- `FPU_RING_POLICY = fault`, with two values on the stack. -/
def strict : State :=
  let s := startWith 2 [] [0x3FFF8000000000000000, 0x40008000000000000000]
  { s with params := { s.params with ringPolicy := .fault } }

/-- Whether an outcome is a next state. -/
def goesOn (o : Host.Outcome State Fault Refusal) : Bool :=
  match o with
  | .next _ => true
  | _ => false

/-- An operand in memory, at the last byte or word of a short segment and across the wrap of a full one. -/
theorem operands_in_bounds : start.operandOk (.mem wrapped : Rm8) 1 = true ∧ start.operandOk (.mem wrapped : Rm16) 2 = true
    ∧ short.operandOk (.mem ⟨.ds, .direct 0xFF⟩ : Rm8) 1 = true ∧ short.operandOk (.mem ⟨.ds, .direct 0xFE⟩ : Rm16) 2 = true
    ∧ short.operandOk (.mem ⟨.ds, .direct 0xFF⟩ : Rm16) 2 = false := by decide

theorem witness_AddAdc : ∃ (s : State) (d : Rm8) (x : Rm16), s.operandOk d 1 = true ∧ s.operandOk x 2 = true :=
  ⟨start, .mem wrapped, .mem wrapped, by decide⟩

theorem witness_SubSbbCmp : ∃ (s : State) (d : Rm8) (x : Rm16), s.operandOk d 1 = true ∧ s.operandOk x 2 = true :=
  ⟨short, .mem ⟨.ds, .direct 0xFF⟩, .mem ⟨.ds, .direct 0xFE⟩, by decide⟩

theorem witness_AndOrXorTest : ∃ (s : State) (d : Rm8) (x : Rm16), s.operandOk d 1 = true ∧ s.operandOk x 2 = true :=
  ⟨start, .reg .bh, .mem wrapped, by decide⟩

theorem witness_IncDecNegNot : ∃ (s : State) (d : Rm8) (x : Rm16), s.operandOk d 1 = true ∧ s.operandOk x 2 = true :=
  ⟨start, .mem wrapped, .reg .di, by decide⟩

theorem witness_MulImul : ∃ (s : State) (d : Rm8) (x : Rm16), s.operandOk d 1 = true ∧ s.operandOk x 2 = true :=
  ⟨start, .mem ⟨.ds, .direct 0⟩, .mem wrapped, by decide⟩

/-- The dividends and divisors of `A46` to `A55`, with the quotients -128 and 128, -32768 and 32768. -/
theorem witness_DivIdiv :
    (∃ (s : State) (d : Rm8), s.operandOk d 1 = true ∧ (highByte s.gpr.ax).toNat < (val8 s (s.loc d)).toNat)
    ∧ (∃ (s : State) (d : Rm8), s.operandOk d 1 = true ∧ (val8 s (s.loc d)).toNat ≤ (highByte s.gpr.ax).toNat)
    ∧ (∃ (s : State) (d : Rm8), s.operandOk d 1 = true ∧ val8 s (s.loc d) = 0)
    ∧ (Divides (0xFF80 : Word).toInt (0x01 : Byte).toInt (-128) 0 ∧ outside 8 (-128) = false)
    ∧ (Divides (0x0080 : Word).toInt (0x01 : Byte).toInt 128 0 ∧ outside 8 128 = true)
    ∧ (∃ (s : State) (d : Rm16), s.operandOk d 2 = true ∧ s.gpr.dx.toNat < (val16 s (s.loc d)).toNat)
    ∧ (∃ (s : State) (d : Rm16), s.operandOk d 2 = true ∧ (val16 s (s.loc d)).toNat ≤ s.gpr.dx.toNat)
    ∧ (∃ (s : State) (d : Rm16), s.operandOk d 2 = true ∧ val16 s (s.loc d) = 0)
    ∧ (Divides (0xFFFF8000 : BitVec 32).toInt (0x0001 : Word).toInt (-32768) 0 ∧ outside 16 (-32768) = false)
    ∧ (Divides (0xFFFF8000 : BitVec 32).toInt (0xFFFF : Word).toInt 32768 0 ∧ outside 16 32768 = true) := by
  refine ⟨⟨{ start with gpr := { start.gpr with ax := 0x00FF, bx := 0x01 } }, .reg .bl, by decide⟩,
    ⟨{ start with gpr := { start.gpr with ax := 0x0100, bx := 0x01 } }, .reg .bl, by decide⟩,
    ⟨start, .mem wrapped, by decide⟩, by unfold Divides; decide, by unfold Divides; decide,
    ⟨{ start with gpr := { start.gpr with dx := 1, bx := 0x0100 } }, .reg .bx, by decide⟩,
    ⟨{ start with gpr := { start.gpr with dx := 1, bx := 1 } }, .reg .bx, by decide⟩,
    ⟨start, .mem wrapped, by decide⟩, by unfold Divides; decide, by unfold Divides; decide⟩

theorem witness_Shifts : ∃ (s : State) (d : Rm8) (x : Rm16), s.operandOk d 1 = true ∧ s.operandOk x 2 = true :=
  ⟨start, .mem wrapped, .mem wrapped, by decide⟩

theorem witness_Rotates : ∃ (s : State) (d : Rm8) (x : Rm16), s.operandOk d 1 = true ∧ s.operandOk x 2 = true :=
  ⟨short, .mem ⟨.ds, .direct 0xFF⟩, .mem ⟨.ds, .direct 0xFE⟩, by decide⟩

theorem witness_MoveData : ∃ (s : State) (d : Rm8) (x : Rm16) (g : SReg) (off : Word), s.operandOk d 1 = true
    ∧ s.operandOk x 2 = true ∧ s.readable (s.seg g) off 1 = true ∧ s.readable (s.seg g) off 2 = true :=
  ⟨start, .mem wrapped, .mem wrapped, .es, 0xFFFF, by decide⟩

theorem witness_Exchange : ∃ (s : State) (d : Rm8) (x : Rm16), s.operandOk d 1 = true ∧ s.operandOk x 2 = true :=
  ⟨start, .mem wrapped, .mem wrapped, by decide⟩

/-- `LDS` across the wrap; `XLAT` as in `M24`. -/
theorem witness_LoadFarTranslate : ∃ (s : State) (m : Mem) (g : SReg), s.readable (s.sel m) (s.off m) 4 = true
    ∧ s.readable (s.seg g) (BitVec.ofNat 16 (s.gpr.bx.toNat + s.gpr.ax.toNat % 256)) 1 = true :=
  ⟨{ start with gpr := { start.gpr with ax := 2, bx := 0xFFFF } }, wrapped, .ds, by decide⟩

theorem witness_Jumps : ∃ (s : State) (d : Rm16) (m : Mem), s.operandOk d 2 = true ∧ s.readable (s.sel m) (s.off m) 4 = true :=
  ⟨start, .mem wrapped, wrapped, by decide⟩

/-- Every condition holds in one of these flags and fails in another. -/
theorem witness_ConditionalJumps :
    let holdsIn (p : Flags → Prop) [DecidablePred p] : Bool :=
      ([0x02, 0x03, 0x42, 0x82, 0x0802, 0x06] : List Word).any (fun w => decide (p (Flags.ofImage w)))
        && ([0x02, 0x03, 0x42, 0x82, 0x0802, 0x06] : List Word).any (fun w => decide (¬p (Flags.ofImage w)))
    (holdsIn (fun f => f.OF = true) && holdsIn (fun f => f.OF = false) && holdsIn (fun f => f.CF = true)
      && holdsIn (fun f => f.CF = false) && holdsIn (fun f => f.ZF = true) && holdsIn (fun f => f.ZF = false)
      && holdsIn (fun f => f.CF = true ∨ f.ZF = true) && holdsIn (fun f => f.CF = false ∧ f.ZF = false)
      && holdsIn (fun f => f.SF = true) && holdsIn (fun f => f.SF = false) && holdsIn (fun f => f.PF = true)
      && holdsIn (fun f => f.PF = false) && holdsIn (fun f => f.SF ≠ f.OF) && holdsIn (fun f => f.SF = f.OF)
      && holdsIn (fun f => f.ZF = true ∨ f.SF ≠ f.OF) && holdsIn (fun f => f.ZF = false ∧ f.SF = f.OF)) = true := by decide

/-- A designated selector and another; `SP` with room for exactly the words pushed. -/
theorem witness_Calls :
    (∃ (s : State) (d : Rm16), s.canPush 1 = true ∧ s.operandOk d 2 = true ∧ s.gpr.sp = 2)
    ∧ (∃ (s : State) (m : Mem), s.readable (s.sel m) (s.off m) 4 = true ∧ s.canPush 2 = true ∧ s.gpr.sp = 4
      ∧ memWord s (s.sel m) (s.off m + 2) ∉ s.params.hostFarSelectors)
    ∧ ∃ (s : State) (m : Mem), s.readable (s.sel m) (s.off m) 4 = true
      ∧ memWord s (s.sel m) (s.off m + 2) ∈ s.params.hostFarSelectors :=
  ⟨⟨{ start with gpr := { start.gpr with sp := 2 } }, .mem wrapped, by decide⟩,
    ⟨{ start with gpr := { start.gpr with sp := 4 } }, wrapped, by decide⟩,
    ⟨{ start with params := { start.params with hostFarSelectors := [0xF000, 0] } }, wrapped, by decide⟩⟩

/-- `SP` below the top of the segment by exactly the words popped. -/
theorem witness_Returns :
    let at_ (v : Word) : State := { start with gpr := { start.gpr with sp := v } }
    (at_ 0xFFFE).canPop 1 = true ∧ (at_ 0xFFFC).canPop 2 = true ∧ (at_ 0xFFFA).canPop 3 = true := by decide

theorem witness_SoftwareInterrupts :
    (∃ s : State, s.flags.OF = true) ∧ (∃ s : State, s.flags.OF = false)
    ∧ (∃ (s : State) (m : Mem) (r : R16), s.readable (s.sel m) (s.off m) 4 = true
      ∧ (memWord s (s.sel m) (s.off m)).toInt ≤ (s.r16 r).toInt ∧ (s.r16 r).toInt ≤ (memWord s (s.sel m) (s.off m + 2)).toInt)
    ∧ ∃ (s : State) (m : Mem) (r : R16), s.readable (s.sel m) (s.off m) 4 = true
      ∧ ¬((memWord s (s.sel m) (s.off m)).toInt ≤ (s.r16 r).toInt
        ∧ (s.r16 r).toInt ≤ (memWord s (s.sel m) (s.off m + 2)).toInt) :=
  ⟨⟨startWith 0x0802 [] [], by decide⟩, ⟨start, by decide⟩,
    ⟨{ startWith 2 [(0x2000, 0x10, [0x00, 0x00, 0x09, 0x00])] [] with gpr := { start.gpr with ax := 9 } }, ⟨.ds, .direct 0x10⟩,
      .ax, by decide⟩,
    ⟨{ startWith 2 [(0x2000, 0x10, [0x00, 0x00, 0x09, 0x00])] [] with gpr := { start.gpr with ax := 0xFFFF } },
      ⟨.ds, .direct 0x10⟩, .ax, by decide⟩⟩

theorem witness_Pushes : ∃ (s : State) (d : Rm16), s.canPush 1 = true ∧ s.operandOk d 2 = true ∧ s.gpr.sp = 2 :=
  ⟨{ start with gpr := { start.gpr with sp := 2 } }, .mem wrapped, by decide⟩

theorem witness_Pops : ∃ (s : State) (d : Rm16), s.canPop 1 = true ∧ s.operandOk d 2 = true ∧ s.gpr.sp = 0xFFFE :=
  ⟨{ start with gpr := { start.gpr with sp := 0xFFFE } }, .mem wrapped, by decide⟩

theorem witness_PushAllPopAll :
    ({ start with gpr := { start.gpr with sp := 16 } } : State).canPush 8 = true
    ∧ [0, 1, 2, 4, 5, 6, 7].all ({ start with gpr := { start.gpr with sp := 0xFFF0 } } : State).canPopAt = true
    ∧ start.mem.wf = true ∧ goesOn (exec .pusha start) = true := by decide

/-- Level 31 with room for exactly its 32 words, and `LEAVE` at the top of the segment. -/
theorem witness_EnterLeave :
    (let s : State := { start with gpr := { start.gpr with sp := 64, bp := 0x0200 } }
     s.canPush (31 + 1) = true ∧ (List.range 31).all (fun j => s.readable s.sreg.ss (s.gpr.bp - BitVec.ofNat 16 (2 * j)) 2) = true)
    ∧ (let s : State := { start with gpr := { start.gpr with bp := 0xFFFE } }
       (withSp s s.gpr.bp).canPop 1 = true) := by decide

theorem witness_StringIterations : ∃ (s : State) (g : SReg), s.readable (s.seg g) s.gpr.si 1 = true
    ∧ s.readable (s.seg g) s.gpr.si 2 = true ∧ s.readable s.sreg.es s.gpr.di 1 = true ∧ s.readable s.sreg.es s.gpr.di 2 = true :=
  ⟨{ start with gpr := { start.gpr with si := 0xFFFF, di := 0xFFFF } }, .ds, by decide⟩

/-- `CX` 0, 1 and 65535; an iteration that goes on. -/
theorem witness_Repetition :
    let cx (v : Word) : State := { start with gpr := { start.gpr with cx := v } }
    (cx 0).gpr.cx = 0 ∧ (cx 1).gpr.cx ≠ 0 ∧ (cx 0xFFFF).gpr.cx ≠ 0 ∧ goesOn (exec (.scasb none) (cx 1)) = true := by decide

theorem witness_Prefixes : ∃ (s : State) (e : Ea),
    [SReg.es, .cs, .ss, .ds].all (fun g => s.readable (s.seg g) (s.eaOff e) 2) = true ∧ s.gpr.cx = 0 :=
  ⟨start, .disp8 .bp 0xFF, by decide⟩

/-- Under `fault` with an empty slot to push to, and a source that holds a value; and under `wrap`. -/
theorem witness_FpLoads : ∃ (s : State) (m : Mem) (i : StIdx), s.params.ringPolicy = .fault ∧ s.fpuReady [] true = true
    ∧ s.fpuReady [i] true = true ∧ [2, 4, 8, 10].all (fun n => s.readable (s.sel m) (s.off m) n) = true :=
  ⟨strict, wrapped, 1, by decide⟩

theorem witness_FpStores : ∃ (s : State) (m : Mem), s.params.ringPolicy = .fault ∧ s.fpuReady [0] false = true
    ∧ [2, 4, 8, 10].all (fun n => s.readable (s.sel m) (s.off m) n) = true := ⟨strict, wrapped, by decide⟩

theorem witness_FpAddSub : ∃ (s : State) (m : Mem) (i : StIdx), s.params.ringPolicy = .fault ∧ s.fpuReady [0] false = true
    ∧ s.fpuReady [0, i] false = true ∧ s.fpuReady [i, 0] false = true
    ∧ [2, 4, 8].all (fun n => s.readable (s.sel m) (s.off m) n) = true := ⟨strict, wrapped, 1, by decide⟩

theorem witness_FpMulDiv : ∃ (s : State) (m : Mem) (i : StIdx), s.params.ringPolicy = .wrap ∧ s.fpuReady [0] false = true
    ∧ s.fpuReady [0, i] false = true ∧ s.fpuReady [i, 0] false = true
    ∧ [2, 4, 8].all (fun n => s.readable (s.sel m) (s.off m) n) = true := ⟨start, wrapped, 7, by decide⟩

theorem witness_FpCompares : ∃ (s : State) (m : Mem), s.params.ringPolicy = .fault ∧ s.fpuReady [0] false = true
    ∧ s.fpuReady [0, 1] false = true ∧ [2, 4, 8].all (fun n => s.readable (s.sel m) (s.off m) n) = true :=
  ⟨strict, wrapped, by decide⟩

/-- A datum for each row of the table, and an empty slot. -/
theorem witness_FpExamine :
    let e (v : F80) : Nat := (v.extractLsb' 64 15).toNat
    let sig (v : F80) : Nat := (v.extractLsb' 0 64).toNat
    let j (v : F80) : Bool := v.getLsbD 63
    start.fpu.occupied 0 = false ∧ strict.fpu.occupied 0 = true
    ∧ (1 ≤ e 0x00010000000000000000 ∧ j 0x00010000000000000000 = false)
    ∧ (1 ≤ e 0x7FFF0000000000000000 ∧ j 0x7FFF0000000000000000 = false)
    ∧ (e 0x7FFF8000000000000001 = 0x7FFF ∧ 2 ^ 63 < sig 0x7FFF8000000000000001)
    ∧ (1 ≤ e 0x7FFE8000000000000000 ∧ e 0x7FFE8000000000000000 < 0x7FFF ∧ j 0x7FFE8000000000000000 = true)
    ∧ (e 0xFFFF8000000000000000 = 0x7FFF ∧ sig 0xFFFF8000000000000000 = 2 ^ 63)
    ∧ (e 0x80000000000000000000 = 0 ∧ sig 0x80000000000000000000 = 0)
    ∧ (e 0x00008000000000000000 = 0 ∧ sig 0x00008000000000000000 ≠ 0) := by decide

theorem witness_FpSignRootRoundExchange : ∃ (s : State) (i : StIdx), s.params.ringPolicy = .fault ∧ s.fpuReady [0] false = true
    ∧ s.fpuReady [0, i] false = true := ⟨strict, 1, by decide⟩

theorem witness_FpControl : ∃ (s : State) (m : Mem), s.readable (s.sel m) (s.off m) 2 = true := ⟨start, wrapped, by decide⟩

/-- Both causes of the fault. -/
theorem witness_FpuStackFaults :
    (∃ (i : Instr) (s : State), s.params.ringPolicy = .fault ∧ ∃ k ∈ slotsRead i.body, s.fpu.occupied k = false)
    ∧ ∃ (i : Instr) (s : State), s.params.ringPolicy = .fault ∧ pushesFp i.body = true
      ∧ (s.fpu.fr.get (s.fpu.top - 1)).occupied = true :=
  ⟨⟨.fcomSti 2, strict, by decide, 2, by decide⟩,
    ⟨.esPrefix .fld1, { strict with fpu := { strict.fpu with top := 7 } }, by decide⟩⟩

theorem witness_RoundToInteger : 0 < ({ num := -5, den := 2 } : Ratio).den := by decide

/-- Nothing tiny: 1 in `b32`; a tiny one: 1.5 times 2 to the -150; one that is too large: 2 to the 200. -/
theorem witness_RoundToFormat :
    (∃ (a : Ratio) (e m : Int), 0 < a.num ∧ 0 < a.den ∧ (2 : ℚ) ^ e ≤ rat a ∧ rat a < 2 ^ (e + 1)
      ∧ Nearest (rat a / 2 ^ (e - Fmt.b32.p + 1)) m ∧ (2 : ℚ) ^ Fmt.b32.emin ≤ m * (2 : ℚ) ^ (e - Fmt.b32.p + 1)
      ∧ m * (2 : ℚ) ^ (e - Fmt.b32.p + 1) < 2 ^ (Fmt.b32.emax + 1))
    ∧ (∃ (a : Ratio) (e m k : Int), 0 < a.num ∧ 0 < a.den ∧ (2 : ℚ) ^ e ≤ rat a ∧ rat a < 2 ^ (e + 1)
      ∧ Nearest (rat a / 2 ^ (e - Fmt.b32.p + 1)) m ∧ m * (2 : ℚ) ^ (e - Fmt.b32.p + 1) < 2 ^ Fmt.b32.emin
      ∧ Nearest (rat a / 2 ^ (Fmt.b32.emin - Fmt.b32.p + 1)) k)
    ∧ ∃ (a : Ratio) (e m : Int), 0 < a.num ∧ 0 < a.den ∧ (2 : ℚ) ^ e ≤ rat a ∧ rat a < 2 ^ (e + 1)
      ∧ Nearest (rat a / 2 ^ (e - Fmt.b32.p + 1)) m ∧ (2 : ℚ) ^ (Fmt.b32.emax + 1) ≤ m * (2 : ℚ) ^ (e - Fmt.b32.p + 1) := by
  refine ⟨⟨⟨1, 1⟩, 0, 2 ^ 23, ?_⟩, ⟨⟨3, 2 ^ 151⟩, -150, 3 * 2 ^ 22, 1, ?_⟩, ⟨⟨2 ^ 200, 1⟩, 200, 2 ^ 23, ?_⟩⟩ <;>
    norm_num [rat, Nearest, Fmt.p, Fmt.emin, Fmt.emax, zpow_neg, zpow_natCast]

theorem witness_ExactValuesSurvive :
    classOf 0x80000000000000000000 = .zero ∧ classOf 0x7FFEFFFFFFFFFFFFFFFF = .normal
    ∧ (classOf 0x00007FFFFFFFFFFFFFFF = .denormal ∧ (0x00007FFFFFFFFFFFFFFF : F80).getLsbD 63 = false)
    ∧ (let w : BitVec 32 := 0xFF800000
       ¬((w.extractLsb' 23 8).toNat = 255 ∧ (w.extractLsb' 0 23).toNat ≠ 0))
    ∧ (let w : BitVec 64 := 0x0000000000000001
       ¬((w.extractLsb' 52 11).toNat = 2047 ∧ (w.extractLsb' 0 52).toNat ≠ 0))
    ∧ ((-2 ^ 63 : Int) ≤ -2 ^ 63 ∧ (2 ^ 63 - 1 : Int) < 2 ^ 63) := by decide

/-- What the spec's examples of rounding and of NaNs give (46_x87_numerics R347, R348, R353, R355): `1 + 2^-24`, a number that
overflows, one that underflows to 0, a signaling NaN, an unsupported datum; and a signaling NaN widened. -/
theorem test_narrow_widen :
    narrow .b32 0x3FFF8000008000000000 = (0x3F800000, { ExcFlags.none with PE := true })
    ∧ narrow .b32 0x407EFFFFFF8000000000 = (0x7F800000, { ExcFlags.none with OE := true, PE := true })
    ∧ narrow .b32 0x3F698000000000000000 = (0, { ExcFlags.none with UE := true, PE := true })
    ∧ narrow .b32 0xFFFF8000010000000001 = (0xFFC00001, { ExcFlags.none with IE := true })
    ∧ narrow .b64 0x00017FFFFFFFFFFFFFFF = (0xFFF8000000000000, { ExcFlags.none with IE := true })
    ∧ widen .b32 0xFF800001 = { x := 0xFFFFC000010000000000, denormal := false, exc := { ExcFlags.none with IE := true } } := by
  decide

/-- A datum of each kind, a pseudo-denormal among the denormals; each is of one kind only (46_x87_numerics R342). -/
theorem witness_AddMulLaws :
    (isUnsupported 0x00017FFFFFFFFFFFFFFF = true ∧ isUnsupported 0x7FFF0000000000000000 = true)
    ∧ (isNaN 0x7FFFC000000000000000 = true ∧ isSignaling 0xFFFF8000000000000001 = true)
    ∧ (isInfinite 0xFFFF8000000000000000 = true ∧ isInfinite 0x7FFF8000000000000000 = true)
    ∧ (isZero 0 = true ∧ isZero 0x80000000000000000000 = true)
    ∧ (isDenormal 0x00000000000000000001 = true ∧ isDenormal 0x00008000000000000000 = true)
    ∧ [(0 : F80), 0x00000000000000000001, 0x00008000000000000000, 0x00018000000000000000, 0xFFFEFFFFFFFFFFFFFFFF].all isFinite = true
    ∧ [(0 : F80), 0x00000000000000000001, 0x00018000000000000000].all (fun v => !(isUnsupported v || isNaN v || isInfinite v)) = true
    ∧ [(0x00017FFFFFFFFFFFFFFF : F80), 0x7FFF8000000000000000, 0x7FFFC000000000000000].all (fun v => !isFinite v) = true
    ∧ (negative 0xBFFF8000000000000000 = true ∧ negative 0x3FFF8000000000000000 = false)
    ∧ classOf 0x00018000000000000000 = .normal ∧ classOf 0xFFFEFFFFFFFFFFFFFFFF = .normal := by decide

theorem value_one : value 0x3FFF8000000000000000 = 1 := by
  have a : expField 0x3FFF8000000000000000 = 16383 ∧ sigField 0x3FFF8000000000000000 = 2 ^ 63
    ∧ negative 0x3FFF8000000000000000 = false := by decide
  simp only [value, a.1, a.2.1, a.2.2]
  norm_num

theorem value_minus_one : value 0xBFFF8000000000000000 = -1 := by
  have a : expField 0xBFFF8000000000000000 = 16383 ∧ sigField 0xBFFF8000000000000000 = 2 ^ 63
    ∧ negative 0xBFFF8000000000000000 = true := by decide
  simp only [value, a.1, a.2.1, a.2.2]
  norm_num

theorem value_32768 : value 0x400E8000000000000000 = 32768 := by
  have a : expField 0x400E8000000000000000 = 16398 ∧ sigField 0x400E8000000000000000 = 2 ^ 63
    ∧ negative 0x400E8000000000000000 = false := by decide
  simp only [value, a.1, a.2.1, a.2.2]
  norm_num

/-- Both outcomes of a sum of finite operands, exactly zero or not; the first integer past the range of 16 bits, and one in
range, as roundings of a datum (46_x87_numerics R349, R370, R377). -/
theorem witness_AddMulLaws_values :
    value 0x3FFF8000000000000000 + value 0xBFFF8000000000000000 = 0
    ∧ value 0x3FFF8000000000000000 + value 0x3FFF8000000000000000 ≠ 0
    ∧ (RoundedInt 1 (value 0x400E8000000000000000) 32768 ∧ (2 : Int) ^ (16 - 1) ≤ 32768)
    ∧ (RoundedInt 3 (value 0xBFFF8000000000000000) (-1) ∧ ¬((-1 : Int) < -2 ^ (16 - 1) ∨ (2 : Int) ^ (16 - 1) ≤ -1)) := by
  rw [value_one, value_minus_one, value_32768]
  refine ⟨by norm_num, by norm_num, ⟨?_, by norm_num⟩, ?_, by norm_num⟩
  · simp [RoundedInt]
  · show (-1 : Int) = if (-1 : ℚ) < 0 then ⌈(-1 : ℚ)⌉ else ⌊(-1 : ℚ)⌋
    norm_num

theorem witness_SquareRootNearest : 0 < ({ num := 2, den := 1 } : Ratio).num ∧ 0 < ({ num := 2, den := 1 } : Ratio).den := by
  decide

/-- Just below a power of two: of `2^64 - 1` the root lies in the binade of `2^31`, where it rounds to `(2^64 - 1) * 2^(-32)`;
`2^32`, the nearest in units of the upper binade, is no rounding of it (46_x87_numerics R348, R374). -/
theorem witness_RootRounds_boundary : RootRounds (2 ^ 64 - 1) (2 ^ 64 - 1) (-32) ∧ ¬RootRounds (2 ^ 64 - 1) (2 ^ 63) (-31) := by
  norm_num [RootRounds]

/-- The root exactly between two numbers of 64 bits: the even one (46_x87_numerics R348). -/
theorem witness_RootRounds_tie : RootRounds ((2 ^ 64 + 1) ^ 2 / 4) (2 ^ 63) 0 ∧ ¬RootRounds ((2 ^ 64 + 1) ^ 2 / 4) (2 ^ 63 + 1) 0 := by
  norm_num [RootRounds]

/-- The two roots above, as the model rounds them (46_x87_numerics R348, R374). -/
theorem test_sqrt_rounds :
    fSqrt (.ofSlot 0x403EFFFFFFFFFFFFFFFF) = (0x401EFFFFFFFFFFFFFFFF, { ExcFlags.none with PE := true })
    ∧ (let r := sqrtMag { num := (2 ^ 64 + 1) ^ 2, den := 4 }
       r.1.eq (Ratio.ofInt (2 ^ 63)) = true ∧ r.2 = true) := by
  decide +kernel

/-- Ten bytes across the wrap, in bounds; and the second byte of a word out of bounds, as in `X25`. -/
theorem witness_MemoryReadWrite :
    (start.readable 0x2000 0xFFFB 10 = true ∧ start.mem.wf = true)
    ∧ (short.readable 0x2000 0xFF 1 = true ∧ short.mem.inBounds 0x2000 (0xFF + BitVec.ofNat 16 1) = false)
    ∧ (start.readable 0x9999 0 0 = true ∧ start.mem.inBounds 0x9999 0 = false) := by decide

theorem witness_PushPop :
    start.mem.wf = true ∧ (start.push16 0xABCD).toOption.isSome = true ∧ (start.push8 0xAB).toOption.isSome = true
    ∧ (let s : State := { start with gpr := { start.gpr with sp := 1 } }
       s.mem.wf = true ∧ s.gpr.sp.toNat < 2)
    ∧ (let s : State := { start with gpr := { start.gpr with sp := 0 } }
       s.mem.wf = true ∧ s.gpr.sp.toNat < 1)
    ∧ (let s : State := { start with gpr := { start.gpr with sp := 0xFFFF } }
       s.mem.segSize s.sreg.ss = some 65536 ∧ 65536 < s.gpr.sp.toNat + 2)
    ∧ short.mem.segSize 0x4000 = none := by decide

theorem witness_FpStackDiscipline : (0 : StIdx) ≠ 7 ∧ (7 : StIdx) ≠ 0 := by decide

theorem witness_FlagsUnchanged : handsOff (.incR16 .ax) = false ∧ goesOn (exec (.incR16 .ax) start) = true
    ∧ FlagName.CF ∉ mayWriteFlags (.incR16 .ax) := by decide

theorem witness_RegistersUnchanged : handsOff (.popR16 .ax) = false ∧ goesOn (exec (.popR16 .ax) start) = true
    ∧ R16.bp ∉ mayWriteRegs (.popR16 .ax) ∧ R16.sp ∈ mayWriteRegs (.popR16 .ax) := by decide

theorem witness_SegmentsAndControlUnchanged : handsOff .popEs = false ∧ goesOn (exec .popEs start) = true
    ∧ SReg.ds ∉ mayWriteSegs .popEs ∧ transfers .popEs = false ∧ start.mem.wf = true
    ∧ start.mem.segSize 0x2000 = some 65536 := by decide

/-- A store across the wrap, and a repeated one of two words. -/
theorem witness_MemoryUnchanged :
    let i : Instr := .movMoffs16Ax .ds 0xFFFF
    let j : Instr := .stosw (some .rep)
    let s : State := { start with gpr := { start.gpr with cx := 2, di := 0xFFFD } }
    s.mem.wf = true ∧ handsOff i = false ∧ goesOn (exec i s) = true ∧ repeats i = false
    ∧ touches (storeBytes i s) 0x2000 0x0001 = false ∧ touches (storeBytes i s) 0x2000 0x0000 = true
    ∧ handsOff j = false ∧ goesOn (exec j s) = true ∧ repeats j = true
    ∧ (List.range s.gpr.cx.toNat).all (fun k => !touches (storeBytes j ((List.range k).foldl
        (fun u _ => advance u (stringWidth j) false true) s)) 0x4000 0x0001) = true
    ∧ touches (storeBytes j (advance s (stringWidth j) false true)) 0x4000 0x0000 = true := by decide

theorem witness_X87Isolated : handsOff .fnstswAx = false ∧ goesOn (exec .fnstswAx start) = true ∧ isX87 .fnstswAx = true
    ∧ isX87 .nop = false ∧ goesOn (exec .nop start) = true ∧ writesCond .fnstswAx = false := by decide

/-- The second byte of a word, the last of ten, and the first of an absent segment. -/
theorem witness_OperandFaults :
    (operandAt (.shlRm16Cl (.mem ⟨.ds, .direct 0xFF⟩)) short = some (0x2000, 0xFF, 2) ∧ short.readable 0x2000 0xFF 1 = true
      ∧ short.mem.inBounds 0x2000 (0xFF + BitVec.ofNat 16 1) = false)
    ∧ (operandAt (.fstpM80 ⟨.ds, .direct 0xF7⟩) short = some (0x2000, 0xF7, 10) ∧ short.readable 0x2000 0xF7 9 = true
      ∧ short.mem.inBounds 0x2000 (0xF7 + BitVec.ofNat 16 9) = false ∧ short.fpuReady [0] false = true)
    ∧ (operandAt (.movAlMoffs8 .es 0) short = some (0x4000, 0, 1) ∧ short.readable 0x4000 0 0 = true
      ∧ short.mem.inBounds 0x4000 (0 + BitVec.ofNat 16 0) = false) := by decide

/-- The first failing access of each kind: a push below the segment, a pop past it and one with no segment, the sixth push of
`PUSHA` (60_exceptions R482), the second copy of `ENTER`, the destination of `POP r/m16`, the two strings of `MOVS`, a far
call whose pointer is in bounds. -/
theorem witness_OperandFaults_accesses :
    let fails (i : Instr) (s : State) : Option (Word × Word) := (accesses i s).findSome? (Access.failsAt s)
    let at_ (sp : Word) : State := { short with gpr := { short.gpr with sp := sp, bp := 2, si := 0xFF, di := 7 } }
    let low : State := { at_ 0xFE with mem := { short.mem with segs := [(0x1000, 65536), (0x2000, 256), (0x3000, 0x100)] } }
    fails (.pushR16 .ax) (at_ 1) = some (0x3000, 0xFFFF) ∧ fails .pusha (at_ 0x000A) = some (0x3000, 0xFFFE)
    ∧ fails (.popR16 .ax) { low with gpr := { low.gpr with sp := 0xFF } } = some (0x3000, 0xFF)
    ∧ fails .retf low = some (0x3000, 0x100)
    ∧ fails .ret { low with sreg := { low.sreg with ss := 0x7777 } } = some (0x7777, 0xFE)
    ∧ fails (.enterImm16Imm8 0 3) low = some (0x3000, 0xFFFE)
    ∧ fails (.popRm16 (.mem ⟨.ds, .direct 0xFF⟩)) (at_ 0x10) = some (0x2000, 0x100)
    ∧ fails (.movsw .ds none) (at_ 0x10) = some (0x2000, 0x100) ∧ fails (.movsb .ds none) (at_ 0x10) = some (0x4000, 7)
    ∧ fails (.movsb .ds (some .rep)) (at_ 0x10) = none
    ∧ fails (.callM1616 ⟨.ds, .direct 0⟩) (at_ 2) = some (0x3000, 0xFFFE)
    ∧ (at_ 1).fpuReady (slotsRead (.pushR16 .ax)) (pushesFp (.pushR16 .ax)) = true := by decide

theorem test_pusha_R482 : stops [0x60] { start with gpr := { start.gpr with sp := 0x000A } } (.addressing 0x3000 0xFFFE) = true := by
  decide

/-- An addressing fault of an operand, of a push below the segment, and the fault of an empty slot. -/
theorem witness_FaultsNamed :
    (∃ i s, exec i s = .fault (.addressing 0x2000 0x0100)) ∧ (∃ i s, exec i s = .fault (.addressing 0x3000 0xFFFF))
    ∧ ∃ i s, exec i s = .fault .fpuStack :=
  ⟨⟨.movAxMoffs16 .ds 0xFF, short, by rfl⟩, ⟨.pushCs, { start with gpr := { start.gpr with sp := 1 } }, by rfl⟩,
    ⟨.fcomSti 2, strict, by rfl⟩⟩

theorem witness_StoreInvariant : start.mem.wf = true ∧ runs [0xA3, 0xFF, 0xFF] start (fun t => t.mem.wf) = true := by decide

/-- `strict` runs under `FPU_RING_POLICY = fault`. -/
theorem witness_ResetState : (strict.mem = start.mem ∧ { strict with ip := 7 }.params = strict.params)
    ∧ (strict.params.ringPolicy = .fault ∧ strict.params.resetSp = 0xFFFE ∧ strict.params.resetSs = 0) := by decide

theorem witness_StepRunsDecoded :
    (start.placeBytes [0x83, 0xC4, 0x04]).halted = false
    ∧ decodesTo ((start.placeBytes [0x83, 0xC4, 0x04]).fetched.take 3) (.addRm16Imm8 (.reg .sp) 4) = true
    ∧ ({ start with halted := true } : State).halted = true := by decide

/-- An instruction whose bytes wrap past the top of the code segment, as in `X32`. -/
theorem witness_StepRunsEncoded :
    let i : Instr := .movR16Imm16 .ax 0x1234
    let s : State := ({ start with ip := 0xFFFE } : State).placeBytes [0xB8, 0x34, 0x12]
    s.halted = false ∧ i.wf = true ∧ (List.range (encode i).length).all (fun k =>
      s.mem.inBounds s.sreg.cs (s.ip + BitVec.ofNat 16 k)
        && (encode i)[k]? == some (s.mem.peek s.sreg.cs (s.ip + BitVec.ofNat 16 k))) = true := by decide

/-- A code segment of `n` bytes with bytes at `CS:IP`. -/
def codeEnds (n : Nat) (bs : List Byte) : State :=
  { start with mem := ({ segs := [(0x1000, n)], cells := [] } : Memory).pokeList 0x1000 0x0100 bs }

/-- The bytes stand at `CS:IP`, and the next is out of bounds. -/
def endsAfter (s : State) (bs : List Byte) : Bool :=
  (List.range bs.length).all (fun k => s.mem.inBounds s.sreg.cs (s.ip + BitVec.ofNat 16 k)
      && decide (bs[k]? = some (s.mem.peek s.sreg.cs (s.ip + BitVec.ofNat 16 k))))
    && !s.mem.inBounds s.sreg.cs (s.ip + BitVec.ofNat 16 bs.length)

theorem endsAfter_standsAt {s : State} {bs : List Byte} (h : endsAfter s bs = true) :
    standsAt s bs ∧ s.mem.inBounds s.sreg.cs (s.ip + BitVec.ofNat 16 bs.length) = false := by
  simpa [endsAfter, standsAt, and_imp] using h

/-- The hypotheses of the first clause together: the last byte of an instruction missing. -/
theorem witness_FetchFaults : ∃ (s : State) (i : Instr) (k : Nat), s.halted = false ∧ i.wf = true ∧ k < (encode i).length
    ∧ standsAt s ((encode i).take k) ∧ s.mem.inBounds s.sreg.cs (s.ip + BitVec.ofNat 16 k) = false :=
  ⟨codeEnds 0x104 [0xC7, 0x46, 0xFE, 0x05], .movRm16Imm16 (.mem ⟨.ss, .disp8 .bp 0xFE⟩) 5, 4, by decide, by decide, by decide,
    (endsAfter_standsAt (by decide)).1, by decide⟩

/-- The first and the last byte of an instruction missing, and the fifteenth of one with prefixes. -/
theorem witness_FetchFaults_missing :
    let i : Instr := .movRm16Imm16 (.mem ⟨.ss, .disp8 .bp 0xFE⟩) 5
    let j : Instr := (List.replicate 10 Instr.lockPrefix).foldr (fun (f : Instr → Instr) i => f i) i
    (i.wf = true ∧ encode i = [0xC7, 0x46, 0xFE, 0x05, 0x00] ∧ endsAfter (codeEnds 0x100 []) ((encode i).take 0) = true
      ∧ endsAfter (codeEnds 0x104 [0xC7, 0x46, 0xFE, 0x05]) ((encode i).take 4) = true
      ∧ stops [] (codeEnds 0x104 [0xC7, 0x46, 0xFE, 0x05]) (.addressing 0x1000 0x0104) = true)
    ∧ (j.wf = true ∧ (encode j).length = 15
      ∧ endsAfter (codeEnds 0x10E ((encode j).take 14)) ((encode j).take 14) = true) := by decide

/-- Each way to an invalid opcode, with prefixes before it, the segment ending behind the deciding byte; and an instruction
of sixteen bytes, whole, and with its fifteenth byte missing. -/
theorem witness_FetchFaults_invalid :
    let inv (bs : List Byte) : Bool :=
      endsAfter (codeEnds (0x100 + bs.length) bs) bs && stops [] (codeEnds (0x100 + bs.length) bs) (.invalidOpcode 0x1000 0x0100)
    let i : Instr := .movRm16Imm16 (.mem ⟨.ss, .disp8 .bp 0xFE⟩) 5
    let long : List Byte := List.replicate 11 0xF0 ++ encode i
    (([0x26, 0xF3] : List Byte) ⊆ prefixBytes ∧ 0xF1 ∈ invalidOpcodes ∧ inv [0xF1] = true ∧ inv [0x26, 0xF3, 0x0F] = true)
    ∧ (invalidSecond 0xFF 0xF8 = true ∧ invalidSecond 0x8E 0x08 = true ∧ invalidSecond 0xC4 0xC0 = true
      ∧ invalidSecond 0xD9 0xD1 = true ∧ inv [0x26, 0xFF, 0xF8] = true ∧ inv [0x8E, 0x08] = true ∧ inv [0xC4, 0xC0] = true
      ∧ inv [0x26, 0xD9, 0xD1] = true)
    ∧ (0x90 ∉ prefixBytes ∧ 0x90 ∉ stringOpcodes ∧ inv [0xF2, 0x26, 0x90] = true)
    ∧ (inv (List.replicate 15 0xF0) = true)
    ∧ (i.wf = true ∧ 0xF2 ∉ List.replicate 11 (0xF0 : Byte) ∧ 15 < 11 + (encode i).length ∧ inv (long.take 15) = true
      ∧ endsAfter (codeEnds 0x10E (long.take 14)) (long.take 14) = true
      ∧ stops [] (codeEnds 0x10E (long.take 14)) (.addressing 0x1000 0x010E) = true) := by decide

/-- What the host is told of a call (10_state R74): a new segment, of zeros; a refusal with the store unchanged, for a
size of 0, a size past 65536, and a selector in use; the fault of a raw access. -/
theorem test_host_addSegment :
    let told (a : HostAction) : Except HostError HostReply := (a.call start).map Prod.fst
    (told (.addSegment 0x5000 3) = .ok (.segment { size := 3, bytes := [0, 0, 0] })
      ∧ ((HostAction.addSegment 0x5000 3).apply start).mem.segment 0x5000 = some { size := 3, bytes := [0, 0, 0] })
    ∧ (∀ a ∈ [HostAction.addSegment 0x5000 0, .addSegment 0x5000 65537, .addSegment 0x1000 16],
      told a = .error .segmentRefused ∧ a.apply start = start) := by decide

theorem test_host_rawAccess :
    (HostAction.writeWord 0x2000 0xFF 0xABCD).call short = .error (.fault (.addressing 0x2000 0x100))
    ∧ (HostQuery.readByte 0x9999 7).answer start = .error (.fault (.addressing 0x9999 7))
    ∧ (HostQuery.readWord 0x2000 0xFFFF).answer ((HostAction.writeWord 0x2000 0xFFFF 0xABCD).apply start) = .ok (.word 0xABCD) := by
  decide

theorem witness_DecodeEncode : (Instr.repPrefix (.csPrefix (.movsw .cs (some .rep)))).wf = true
    ∧ (Instr.movRm16Imm16 (.mem ⟨.ss, .disp16 .bpdi 0x8000⟩) 0xFFFF).wf = true := by decide

theorem witness_EncodeDecode : decodesTo [0xF3, 0x2E, 0xA5] (.repPrefix (.csPrefix (.movsw .cs (some .rep)))) = true := by decide

/-- `DIV` by zero and `INT` hand the state over with `IP` at the next instruction (`A48`, `J40`). -/
theorem test_div_A48 (s : State) (h : s.gpr.bx = 0) : exec (.divRm16 (.reg .bx)) s = .next (s.hostInterrupt 0) := by
  show finish (s.div16 (.reg .bx)) = _
  simp [State.div16, State.get16, State.r16, Gpr.get, h, finish, State.divideError, bind, Except.bind, pure, Except.pure]

theorem test_int_J40 (s : State) : exec (.intImm8 0x21) s = .next (s.hostInterrupt 0x21) := rfl

end Sys2Proof.Tests
end

/-! PROOFS of the statements about the state (10_state): the frame of every instruction, from the frames of the shared
operations in Laws/Frames.lean, and what follows from it; the views of registers and flags; the reset state. -/

namespace Sys2Proof.Machine

/-! ## What the body of an instruction may change, as one scope -/

/-- The instructions that write the x87 control word (47_x87_instructions R450, R452). -/
def bodyWritesCw : Instr → Bool
  | .fldcwM16 _ | .fninit => true
  | _ => false

/-- The instructions that clear a sticky flag (47_x87_instructions R450, R451). -/
def bodyClears : Instr → Bool
  | .fnclex | .fninit => true
  | _ => false

/-- The instruction that sets `halted` (10_state R56). -/
def bodyHalts : Instr → Bool
  | .hlt => true
  | _ => false

theorem bodyHalts_of_ne {i : Instr} (h : i ≠ .hlt) : bodyHalts i = false := by
  unfold bodyHalts
  split
  · exact absurd rfl h
  · rfl

/-- The tables of Safety.lean, as the scope of an instruction's body. -/
def bodyScope (i : Instr) : Scope where
  regs := bodyRegs i
  flags := bodyFlags i
  segs := bodySegs i
  ip := bodyTransfers i
  halted := bodyHalts i
  fpu := bodyIsX87 i
  cond := bodyWritesCond i
  cw := bodyWritesCw i
  clears := bodyClears i

/-- The bytes of `n` iterations of a store, each moved from the one before by the width (45_string_flag_misc R311). -/
def repeated (s : State) (w : Option (Word × Word × Nat)) (n : Nat) : Word → Word → Prop := fun a b =>
  ∃ k < n, within (w.map (fun x => (x.1, x.2.1 + BitVec.ofNat 16 k * s.delta x.2.2, x.2.2))) a b

/-- The bytes that the body of an instruction may change. -/
def bodyWrites (s : State) (i : Instr) : Word → Word → Prop :=
  match bodyRepeats i with
  | true => repeated s (bodyStore s i) s.gpr.cx.toNat
  | false => within (bodyStore s i)

/-- The faults of the body of an instruction: of an access, of a push or a pop, of the x87 check. -/
def MayFault (i : Instr) (s : State) (f : Fault) : Prop :=
  Misplaced s f ∨ bodyIsX87 i = true ∧ s.params.ringPolicy = .fault ∧ f = .fpuStack

/-- What the body of an instruction leaves unchanged: all but its scope, or, where it may hand the state to the host, what
no host move changes. -/
def Leaves (i : Instr) (s t : State) : Prop :=
  bodyHandsOff i = false ∧ Frame (bodyScope i) (bodyWrites s i) s t ∨ bodyHandsOff i = true ∧ Kept s t

/-- An instruction stays within its tables: its next state leaves what it must, its fault is one that may be, and it is
not refused. -/
def Keeps (i : Instr) (s : State) : Prop :=
  match exec i s with
  | .next t => Leaves i s t
  | .fault f => MayFault i s f
  | .refused _ => False

theorem keeps_of_ends {i : Instr} {s : State} {o : Except Fault State} (e : exec i s = finish o)
    (h : Ends (MayFault i s) (Leaves i s) o) : Keeps i s := by
  unfold Keeps
  rw [e]
  cases o <;> exact h

theorem keeps_of_framed {i : Instr} {s : State} {o : Except Fault State} (e : exec i s = finish o)
    (hb : bodyHandsOff i = false) (h : Framed (bodyScope i) (bodyWrites s i) s o) : Keeps i s :=
  keeps_of_ends e (Ends.mono h (fun _ hf => .inl hf) (fun _ ht => .inl ⟨hb, ht⟩))

theorem keeps_of_kept {i : Instr} {s : State} {o : Except Fault State} (e : exec i s = finish o)
    (hb : bodyHandsOff i = true) (h : Ends (Misplaced s) (Kept s) o) : Keeps i s :=
  keeps_of_ends e (Ends.mono h (fun _ hf => .inl hf) (fun _ ht => .inr ⟨hb, ht⟩))

/-- A failed check of the slots says which policy is in force (47_x87_instructions R392, R394). -/
theorem ringPolicy_of_not_ready {s : State} {reads : List StIdx} {pushes : Bool} (h : s.fpuReady reads pushes = false) :
    s.params.ringPolicy = .fault := by
  unfold State.fpuReady at h
  cases hp : s.params.ringPolicy with
  | wrap => simp [hp] at h
  | fault => rfl

theorem keeps_of_fpFramed {i : Instr} {s : State} {o : Except Fault State} {reads : List StIdx} {pushes : Bool}
    (e : exec i s = finish o) (hb : bodyHandsOff i = false) (hx : bodyIsX87 i = true)
    (h : FpFramed (bodyScope i) (bodyWrites s i) s reads pushes o) : Keeps i s := by
  rcases h with ⟨-, hf⟩ | ⟨hr, rfl⟩
  · exact keeps_of_framed e hb hf
  · exact keeps_of_ends e (.inr ⟨hx, ringPolicy_of_not_ready hr, rfl⟩)

/-! ## Frames in the words of the tables -/

/-- An operation that stores nothing meets any bound on its stores. -/
theorem Framed.noStore {c : Scope} {W : Word → Word → Prop} {s : State} {o : Except Fault State}
    (h : Framed c nowhere s o) : Framed c W s o :=
  h.mono (Scope.Le.refl c) (nowhere_le W)

theorem FpFramed.noStore {c : Scope} {W : Word → Word → Prop} {s : State} {reads : List StIdx} {pushes : Bool}
    {o : Except Fault State} (h : FpFramed c nowhere s reads pushes o) : FpFramed c W s reads pushes o :=
  h.imp (fun x => ⟨x.1, x.2.noStore⟩) id

/-- A frame in the words of a location, for the location of a byte operand. -/
theorem framed_rm8 {s : State} (rs : List R16) {d : Rm8} {x : List FlagName} {o : Except Fault State}
    (h : Framed { regs := rs ++ locRegs8 (s.loc d), flags := x } (within (locBytes 1 (s.loc d))) s o) :
    Framed { regs := rs ++ rm8Regs d, flags := x } (within (s.operandBytes d 1)) s o := by
  rwa [locRegs8_loc, locBytes_loc] at h

theorem framed_rm16 {s : State} (rs : List R16) {d : Rm16} {x : List FlagName} {o : Except Fault State}
    (h : Framed { regs := rs ++ locRegs16 (s.loc d), flags := x } (within (locBytes 2 (s.loc d))) s o) :
    Framed { regs := rs ++ rm16Regs d, flags := x } (within (s.operandBytes d 2)) s o := by
  rwa [locRegs16_loc, locBytes_loc] at h

theorem framed_alu8_write (s : State) (op : AluOp) (hw : op.writes = true) (l : Loc R8) (v : Byte) :
    Framed { regs := locRegs8 l, flags := statusNames } (within (locBytes 1 l)) s (s.alu8 op l v) := by
  simpa only [hw, if_true] using framed_alu8 s op l v

theorem framed_alu16_write (s : State) (op : AluOp) (hw : op.writes = true) (l : Loc R16) (v : Word) :
    Framed { regs := locRegs16 l, flags := statusNames } (within (locBytes 2 l)) s (s.alu16 op l v) := by
  simpa only [hw, if_true] using framed_alu16 s op l v

theorem framed_alu8_discard (s : State) (op : AluOp) (hw : op.writes = false) (l : Loc R8) (v : Byte) :
    Framed { flags := statusNames } nowhere s (s.alu8 op l v) := by
  have h := framed_alu8 s op l v
  simp only [hw, Bool.false_eq_true, if_false] at h
  exact h.mono (Scope.Le.refl _) (by simp [within, touches])

theorem framed_alu16_discard (s : State) (op : AluOp) (hw : op.writes = false) (l : Loc R16) (v : Word) :
    Framed { flags := statusNames } nowhere s (s.alu16 op l v) := by
  have h := framed_alu16 s op l v
  simp only [hw, Bool.false_eq_true, if_false] at h
  exact h.mono (Scope.Le.refl _) (by simp [within, touches])

theorem framed_aluFrom8_write (s : State) (op : AluOp) (hw : op.writes = true) (r : R8) (x : Rm8) :
    Framed { regs := [parentOf r], flags := statusNames } nowhere s (s.aluFrom8 op r x) := by
  simpa only [hw, if_true] using framed_aluFrom8 s op r x

theorem framed_aluFrom16_write (s : State) (op : AluOp) (hw : op.writes = true) (r : R16) (x : Rm16) :
    Framed { regs := [r], flags := statusNames } nowhere s (s.aluFrom16 op r x) := by
  simpa only [hw, if_true] using framed_aluFrom16 s op r x

/-- A word stored by an x87 instruction (47_x87_instructions R453, R454). -/
theorem framed_fpWord (s : State) (sel off : Word) (v : Nat) :
    Framed { fpu := true } (within (some (sel, off, 2))) s (s.memWrite sel off 2 v) :=
  (framed_memWrite s sel off 2 v (by decide)).mono (by constructor <;> simp) (fun _ _ e => e)

/-! ## Single writes -/

theorem Flags.get_set (f : Flags) (x y : FlagName) (v : Bool) : (f.set x v).get y = if y = x then v else f.get y := by
  cases x <;> cases y <;> rfl

theorem frame_setFlag (s : State) (x : FlagName) (v : Bool) :
    Frame { flags := [x] } nowhere s (s.setFlags (s.flags.set x v)) :=
  frame_setFlags s [x] _ (fun q hq => by rw [Flags.get_set, if_neg (by simpa using hq)])

theorem frame_setLowFlags (s : State) (b : Byte) :
    Frame { flags := [.CF, .PF, .AF, .ZF, .SF] } nowhere s (s.setFlags (s.flags.withLowByte b)) :=
  frame_setFlags s _ _ (fun q hq => by
    cases q with
    | TF | IF | DF | OF => rfl
    | CF | PF | AF | ZF | SF => simp at hq)

theorem frame_halt (s : State) : Frame { halted := true } nowhere s { s with halted := true } :=
  { Frame.refl _ _ s with halted := fun e => nomatch e }

/-- The slots and `TOP` written, which is no condition bit, sticky flag or control (47_x87_instructions R447 to R449). -/
theorem frame_setSlots (s : State) (f : Slots) (k : BitVec 3) :
    Frame { fpu := true } nowhere s (s.setFpu { s.fpu with fr := f, top := k }) :=
  frame_setFpu s _ rfl rfl (ExcFlags.or_self _).symm

theorem frame_fpExamine (s : State) :
    Frame { fpu := true, cond := true } nowhere s (s.setFpu { s.fpu with cond := s.fpu.examine }) :=
  { Frame.refl _ _ s with
    fpu := fun e => nomatch e
    cond := fun e => nomatch e }

theorem frame_fpClear (s : State) :
    Frame { fpu := true, clears := true } nowhere s (s.setFpu { s.fpu with exc := .none }) :=
  { Frame.refl _ _ s with
    fpu := fun e => nomatch e
    sticky := fun e => nomatch e }

theorem frame_fpInit (s : State) :
    Frame { fpu := true, cond := true, cw := true, clears := true } nowhere s (s.setFpu s.fpu.init) :=
  { Frame.refl _ _ s with
    fpu := fun e => nomatch e
    cond := fun e => nomatch e
    cw := fun e => nomatch e
    sticky := fun e => nomatch e }

/-- `FNSTSW AX` writes a register and no x87 state (47_x87_instructions R455). -/
theorem framed_fpStatusToAx (s : State) :
    Framed { regs := [.ax], fpu := true } nowhere s (.ok (s.setR16 .ax s.fpu.statusWord)) :=
  .ok ((frame_setR16 s .ax _).mono (by constructor <;> simp) (nowhere_le _))

/-! ## String instructions -/

theorem Iterates.mono {c d : Scope} {w : Nat} {stores : Bool} {s : State} {o : Except Fault State}
    (h : Iterates c w stores s o) (hc : Scope.Le c d) : Iterates d w stores s o :=
  Ends.mono h (fun _ hf => hf) (fun _ ht => ⟨ht.1.mono hc (fun _ _ e => e), ht.2⟩)

/-- The bytes that a string instruction of width `w` may store to. -/
def stringWrites (s : State) (rep : Option Rep) (w : Nat) (stores : Bool) : Word → Word → Prop :=
  let one := if stores then some (s.sreg.es, s.gpr.di, w) else none
  match rep with
  | none => within one
  | some _ => repeated s one s.gpr.cx.toNat

/-- A string instruction, repeated or not: its iteration's registers, and `CX` where it is repeated. -/
theorem framed_repeatString {regs : List R16} {flags : List FlagName} {w : Nat} {stores : Bool}
    {iter : State → Except Fault State} (hi : ∀ s, Iterates { regs := regs, flags := flags } w stores s (iter s))
    (hdf : FlagName.DF ∉ flags) (s : State) (rep : Option Rep) (compares : Bool) :
    Framed { regs := repCount rep ++ regs, flags := flags } (stringWrites s rep w stores) s
      (s.repeatString rep compares iter) := by
  cases rep with
  | none => exact Ends.mono (hi s) (fun _ hf => hf) (fun _ ht => ht.1)
  | some r =>
    have hi' : ∀ t, Iterates { regs := .cx :: regs, flags := flags } w stores t (iter t) :=
      fun t => (hi t).mono (by constructor <;> simp +contextual)
    refine (framed_repLoop hi' (by simp) rfl hdf s.gpr.cx.toNat s).mono (Scope.Le.refl _) ?_
    rintro a b ⟨k, hk, h⟩
    refine ⟨k, hk, ?_⟩
    cases stores <;> exact h

/-! ## Instructions that may hand the state to the host -/

/-- A division answers its result, or the host's vector 0 (41_arithmetic R205). -/
theorem kept_orDivideError {E : Fault → Prop} {s t : State} {p : Prop} [Decidable p] (h : Kept s t) :
    Ends E (Kept s) (if p then pure s.divideError else pure t) := by
  split
  · exact kept_handOff s _
  · exact h

theorem kept_div8 (s : State) (l : Loc R8) : Ends (Misplaced s) (Kept s) (s.div8 l) :=
  Ends.bind (reads_get8 s l) (fun _ _ => kept_orDivideError ⟨rfl, rfl, id, fun _ _ _ h => h⟩)

theorem kept_div16 (s : State) (l : Loc R16) : Ends (Misplaced s) (Kept s) (s.div16 l) :=
  Ends.bind (reads_get16 s l) (fun _ _ => kept_orDivideError ⟨rfl, rfl, id, fun _ _ _ h => h⟩)

theorem kept_idiv8 (s : State) (l : Loc R8) : Ends (Misplaced s) (Kept s) (s.idiv8 l) :=
  Ends.bind (reads_get8 s l) (fun _ _ => kept_orDivideError ⟨rfl, rfl, id, fun _ _ _ h => h⟩)

theorem kept_idiv16 (s : State) (l : Loc R16) : Ends (Misplaced s) (Kept s) (s.idiv16 l) :=
  Ends.bind (reads_get16 s l) (fun _ _ => kept_orDivideError ⟨rfl, rfl, id, fun _ _ _ h => h⟩)

theorem kept_boundCheck (s : State) (r : R16) (m : Mem) : Ends (Misplaced s) (Kept s) (s.boundCheck r m) :=
  Ends.bind (reads_readPair s _ _) (fun _ _ => by
    dsimp only
    split
    · exact kept_handOff s _
    · exact Kept.refl s)

theorem kept_hostInterrupt (s : State) (v : Byte) : Ends (Misplaced s) (Kept s) (.ok (s.hostInterrupt v)) :=
  kept_handOff s _

theorem kept_into (s : State) :
    Ends (Misplaced s) (Kept s) (.ok (if s.flags.OF then s.hostInterrupt 4 else s)) := by
  split
  · exact kept_handOff s _
  · exact Kept.refl s

/-- A far call that is not handed off pushes two words and jumps (43_control_transfer R262). -/
theorem framed_callFar_push (s : State) (sel off : Word) :
    Framed { regs := [.sp], segs := [.cs], ip := true } (below s 2) s
      (s.push16 s.sreg.cs >>= fun t => t.push16 s.ip >>= fun u => pure (u.setCsIp sel off)) :=
  framed_pushThen (by decide) (by simp) (by simp) (fun _ => framed_pushThen (by decide) (by simp) (by simp) (fun u =>
    .pure ((frame_setCsIp u sel off).mono (Scope.Le.mk (by simp) (by simp) (by simp)) (nowhere_le _))))

theorem kept_callFar (s : State) (sel off : Word) : Ends (Misplaced s) (Kept s) (s.callFar sel off) := by
  unfold State.callFar
  split
  · exact kept_handOff s _
  · exact Ends.mono (framed_callFar_push s sel off) (fun _ hf => hf) (fun _ ht => ht.kept rfl)

theorem kept_callFarAt (s : State) (m : Mem) : Ends (Misplaced s) (Kept s) (s.callFarAt m) :=
  Ends.bind (reads_readPair s _ _) (fun p _ => kept_callFar s p.2 p.1)

/-! ## Every instruction -/

/-- The case split over the instructions: each is one of the shared operations, whose frame lies in the tables. -/
theorem keeps_body (i : Instr) (s : State) : Keeps i.body s := by
  induction i with
  -- Under its own prefixes an instruction has the same body.
  | esPrefix _ ih | csPrefix _ ih | ssPrefix _ ih | dsPrefix _ ih | lockPrefix _ ih | repnePrefix _ ih
  | repPrefix _ ih => exact ih
  -- Arithmetic and logic (41_arithmetic, 42_logic).
  | addRm8R8 d _ | orRm8R8 d _ | adcRm8R8 d _ | sbbRm8R8 d _ | andRm8R8 d _ | subRm8R8 d _ | xorRm8R8 d _
  | addRm8Imm8 d _ | orRm8Imm8 d _ | adcRm8Imm8 d _ | sbbRm8Imm8 d _ | andRm8Imm8 d _ | subRm8Imm8 d _
  | xorRm8Imm8 d _ => exact keeps_of_framed rfl rfl (framed_rm8 [] (framed_alu8_write s _ rfl (s.loc d) _))
  | addRm16R16 d _ | orRm16R16 d _ | adcRm16R16 d _ | sbbRm16R16 d _ | andRm16R16 d _ | subRm16R16 d _
  | xorRm16R16 d _ | addRm16Imm16 d _ | orRm16Imm16 d _ | adcRm16Imm16 d _ | sbbRm16Imm16 d _ | andRm16Imm16 d _
  | subRm16Imm16 d _ | xorRm16Imm16 d _ | addRm16Imm8 d _ | orRm16Imm8 d _ | adcRm16Imm8 d _ | sbbRm16Imm8 d _
  | andRm16Imm8 d _ | subRm16Imm8 d _ | xorRm16Imm8 d _ =>
    exact keeps_of_framed rfl rfl (framed_rm16 [] (framed_alu16_write s _ rfl (s.loc d) _))
  | addR8Rm8 r x | orR8Rm8 r x | adcR8Rm8 r x | sbbR8Rm8 r x | andR8Rm8 r x | subR8Rm8 r x | xorR8Rm8 r x =>
    exact keeps_of_framed rfl rfl (framed_aluFrom8_write s _ rfl r x).noStore
  | addR16Rm16 r x | orR16Rm16 r x | adcR16Rm16 r x | sbbR16Rm16 r x | andR16Rm16 r x | subR16Rm16 r x
  | xorR16Rm16 r x => exact keeps_of_framed rfl rfl (framed_aluFrom16_write s _ rfl r x).noStore
  | addAlImm8 imm => exact keeps_of_framed rfl rfl (framed_alu8_write s .add rfl (.reg .al) imm)
  | addAxImm16 imm => exact keeps_of_framed rfl rfl (framed_alu16_write s .add rfl (.reg .ax) imm)
  | orAlImm8 imm => exact keeps_of_framed rfl rfl (framed_alu8_write s .or rfl (.reg .al) imm)
  | orAxImm16 imm => exact keeps_of_framed rfl rfl (framed_alu16_write s .or rfl (.reg .ax) imm)
  | adcAlImm8 imm => exact keeps_of_framed rfl rfl (framed_alu8_write s .adc rfl (.reg .al) imm)
  | adcAxImm16 imm => exact keeps_of_framed rfl rfl (framed_alu16_write s .adc rfl (.reg .ax) imm)
  | sbbAlImm8 imm => exact keeps_of_framed rfl rfl (framed_alu8_write s .sbb rfl (.reg .al) imm)
  | sbbAxImm16 imm => exact keeps_of_framed rfl rfl (framed_alu16_write s .sbb rfl (.reg .ax) imm)
  | andAlImm8 imm => exact keeps_of_framed rfl rfl (framed_alu8_write s .and rfl (.reg .al) imm)
  | andAxImm16 imm => exact keeps_of_framed rfl rfl (framed_alu16_write s .and rfl (.reg .ax) imm)
  | subAlImm8 imm => exact keeps_of_framed rfl rfl (framed_alu8_write s .sub rfl (.reg .al) imm)
  | subAxImm16 imm => exact keeps_of_framed rfl rfl (framed_alu16_write s .sub rfl (.reg .ax) imm)
  | xorAlImm8 imm => exact keeps_of_framed rfl rfl (framed_alu8_write s .xor rfl (.reg .al) imm)
  | xorAxImm16 imm => exact keeps_of_framed rfl rfl (framed_alu16_write s .xor rfl (.reg .ax) imm)
  | cmpRm8R8 _ _ | cmpRm8Imm8 _ _ | testRm8R8 _ _ | testRm8Imm8 _ _ =>
    exact keeps_of_framed rfl rfl (framed_alu8_discard s _ rfl _ _).noStore
  | cmpRm16R16 _ _ | cmpRm16Imm16 _ _ | cmpRm16Imm8 _ _ | testRm16R16 _ _ | testRm16Imm16 _ _ =>
    exact keeps_of_framed rfl rfl (framed_alu16_discard s _ rfl _ _).noStore
  | cmpR8Rm8 r x => exact keeps_of_framed rfl rfl (framed_aluFrom8 s .cmp r x).noStore
  | cmpR16Rm16 r x => exact keeps_of_framed rfl rfl (framed_aluFrom16 s .cmp r x).noStore
  | cmpAlImm8 imm => exact keeps_of_framed rfl rfl (framed_alu8_discard s .cmp rfl (.reg .al) imm).noStore
  | cmpAxImm16 imm => exact keeps_of_framed rfl rfl (framed_alu16_discard s .cmp rfl (.reg .ax) imm).noStore
  | incR16 r => exact keeps_of_framed rfl rfl (framed_inc16 s (.reg r))
  | decR16 r => exact keeps_of_framed rfl rfl (framed_dec16 s (.reg r))
  | imulR16Rm16Imm16 r x _ | imulR16Rm16Imm8 r x _ =>
    exact keeps_of_framed rfl rfl (framed_imul3 s r (s.loc x) _).noStore
  | testAlImm8 imm => exact keeps_of_framed rfl rfl (framed_alu8_discard s .test rfl (.reg .al) imm).noStore
  | testAxImm16 imm => exact keeps_of_framed rfl rfl (framed_alu16_discard s .test rfl (.reg .ax) imm).noStore
  | notRm8 d => exact keeps_of_framed rfl rfl (framed_rm8 [] (framed_not8 s (s.loc d)))
  | negRm8 d => exact keeps_of_framed rfl rfl (framed_rm8 [] (framed_neg8 s (s.loc d)))
  | mulRm8 d => exact keeps_of_framed rfl rfl (framed_mul8 s (s.loc d)).noStore
  | imulRm8 d => exact keeps_of_framed rfl rfl (framed_imul8 s (s.loc d)).noStore
  | divRm8 d => exact keeps_of_kept rfl rfl (kept_div8 s (s.loc d))
  | idivRm8 d => exact keeps_of_kept rfl rfl (kept_idiv8 s (s.loc d))
  | notRm16 d => exact keeps_of_framed rfl rfl (framed_rm16 [] (framed_not16 s (s.loc d)))
  | negRm16 d => exact keeps_of_framed rfl rfl (framed_rm16 [] (framed_neg16 s (s.loc d)))
  | mulRm16 d => exact keeps_of_framed rfl rfl (framed_mul16 s (s.loc d)).noStore
  | imulRm16 d => exact keeps_of_framed rfl rfl (framed_imul16 s (s.loc d)).noStore
  | divRm16 d => exact keeps_of_kept rfl rfl (kept_div16 s (s.loc d))
  | idivRm16 d => exact keeps_of_kept rfl rfl (kept_idiv16 s (s.loc d))
  | incRm8 d => exact keeps_of_framed rfl rfl (framed_rm8 [] (framed_inc8 s (s.loc d)))
  | decRm8 d => exact keeps_of_framed rfl rfl (framed_rm8 [] (framed_dec8 s (s.loc d)))
  | incRm16 d => exact keeps_of_framed rfl rfl (framed_rm16 [] (framed_inc16 s (s.loc d)))
  | decRm16 d => exact keeps_of_framed rfl rfl (framed_rm16 [] (framed_dec16 s (s.loc d)))
  -- Shifts and rotates (42_logic).
  | rolRm8Imm8 d _ | rorRm8Imm8 d _ | rclRm8Imm8 d _ | rcrRm8Imm8 d _ | shlRm8Imm8 d _ | shrRm8Imm8 d _
  | sarRm8Imm8 d _ | rolRm8One d | rorRm8One d | rclRm8One d | rcrRm8One d | shlRm8One d | shrRm8One d | sarRm8One d
  | rolRm8Cl d | rorRm8Cl d | rclRm8Cl d | rcrRm8Cl d | shlRm8Cl d | shrRm8Cl d | sarRm8Cl d =>
    exact keeps_of_framed rfl rfl (framed_shift8 s _ d _)
  | rolRm16Imm8 d _ | rorRm16Imm8 d _ | rclRm16Imm8 d _ | rcrRm16Imm8 d _ | shlRm16Imm8 d _ | shrRm16Imm8 d _
  | sarRm16Imm8 d _ | rolRm16One d | rorRm16One d | rclRm16One d | rcrRm16One d | shlRm16One d | shrRm16One d
  | sarRm16One d | rolRm16Cl d | rorRm16Cl d | rclRm16Cl d | rcrRm16Cl d | shlRm16Cl d | shrRm16Cl d | sarRm16Cl d =>
    exact keeps_of_framed rfl rfl (framed_shift16 s _ d _)
  -- Data movement (40_data_movement), and what changes nothing.
  | xchgR8Rm8 r x => exact keeps_of_framed rfl rfl (framed_rm8 [_] (framed_xchg8 s r (s.loc x)))
  | xchgR16Rm16 r x => exact keeps_of_framed rfl rfl (framed_rm16 [_] (framed_xchg16 s r (s.loc x)))
  | movRm8R8 d _ | movRm8Imm8 d _ => exact keeps_of_framed rfl rfl (framed_rm8 [] (framed_put8 s (s.loc d) _))
  | movRm16R16 d _ | movRm16Es d | movRm16Cs d | movRm16Ss d | movRm16Ds d | movRm16Imm16 d _ =>
    exact keeps_of_framed rfl rfl (framed_rm16 [] (framed_put16 s (s.loc d) _))
  | movR8Rm8 r x => exact keeps_of_framed rfl rfl (framed_move8 s (.reg r) (s.loc x))
  | movR16Rm16 r x => exact keeps_of_framed rfl rfl (framed_move16 s (.reg r) (s.loc x))
  | leaR16M r _ => exact keeps_of_framed rfl rfl (Framed.ok (frame_setR16 s r _)).noStore
  | movEsRm16 d => exact keeps_of_framed rfl rfl (framed_loadSeg s .es (s.loc d)).noStore
  | movSsRm16 d => exact keeps_of_framed rfl rfl (framed_loadSeg s .ss (s.loc d)).noStore
  | movDsRm16 d => exact keeps_of_framed rfl rfl (framed_loadSeg s .ds (s.loc d)).noStore
  | nop | wait | fnop => exact keeps_of_framed rfl rfl (.ok (Frame.refl _ _ s))
  | xchgAxCx => exact keeps_of_framed rfl rfl (framed_xchg16 s .ax (.reg .cx))
  | xchgAxDx => exact keeps_of_framed rfl rfl (framed_xchg16 s .ax (.reg .dx))
  | xchgAxBx => exact keeps_of_framed rfl rfl (framed_xchg16 s .ax (.reg .bx))
  | xchgAxSp => exact keeps_of_framed rfl rfl (framed_xchg16 s .ax (.reg .sp))
  | xchgAxBp => exact keeps_of_framed rfl rfl (framed_xchg16 s .ax (.reg .bp))
  | xchgAxSi => exact keeps_of_framed rfl rfl (framed_xchg16 s .ax (.reg .si))
  | xchgAxDi => exact keeps_of_framed rfl rfl (framed_xchg16 s .ax (.reg .di))
  | cbw => exact keeps_of_framed rfl rfl (Framed.ok (frame_setR16 s .ax _)).noStore
  | cwd => exact keeps_of_framed rfl rfl (Framed.ok (frame_setR16 s .dx _)).noStore
  | sahf => exact keeps_of_framed rfl rfl (Framed.ok (frame_setLowFlags s _)).noStore
  | lahf => exact keeps_of_framed rfl rfl (Framed.ok (frame_setR8 s .ah _)).noStore
  | movAlMoffs8 seg off => exact keeps_of_framed rfl rfl (framed_move8 s (.reg .al) (.mem (s.seg seg) off))
  | movAxMoffs16 seg off => exact keeps_of_framed rfl rfl (framed_move16 s (.reg .ax) (.mem (s.seg seg) off))
  | movMoffs8Al seg off => exact keeps_of_framed rfl rfl (framed_put8 s (.mem (s.seg seg) off) _)
  | movMoffs16Ax seg off => exact keeps_of_framed rfl rfl (framed_put16 s (.mem (s.seg seg) off) _)
  | movR8Imm8 r imm => exact keeps_of_framed rfl rfl (framed_put8 s (.reg r) imm)
  | movR16Imm16 r imm => exact keeps_of_framed rfl rfl (framed_put16 s (.reg r) imm)
  | lesR16M1616 r m => exact keeps_of_framed rfl rfl (framed_loadFar s r .es m).noStore
  | ldsR16M1616 r m => exact keeps_of_framed rfl rfl (framed_loadFar s r .ds m).noStore
  | xlat seg => exact keeps_of_framed rfl rfl (framed_xlatFrom s seg).noStore
  -- The stack (44_stack).
  | pushEs | pushCs | pushSs | pushDs | pushR16 _ | pushImm16 _ | pushImm8 _ | pushf =>
    exact keeps_of_framed rfl rfl (framed_push16 s _)
  | popEs => exact keeps_of_framed rfl rfl (framed_popSeg s .es).noStore
  | popSs => exact keeps_of_framed rfl rfl (framed_popSeg s .ss).noStore
  | popDs => exact keeps_of_framed rfl rfl (framed_popSeg s .ds).noStore
  | popR16 r => exact keeps_of_framed rfl rfl (framed_popOperand s (.reg r))
  | pusha => exact keeps_of_framed rfl rfl (framed_pushAll s)
  | popa => exact keeps_of_framed rfl rfl (framed_popAll s).noStore
  | popRm16 d => exact keeps_of_framed rfl rfl (framed_rm16 [.sp] (framed_popOperand s (s.loc d)))
  | popf => exact keeps_of_framed rfl rfl (framed_popFlags s).noStore
  | enterImm16Imm8 size level => exact keeps_of_framed rfl rfl (framed_enterFrame s size level)
  | leave => exact keeps_of_framed rfl rfl (framed_leaveFrame s).noStore
  | pushRm16 d => exact keeps_of_framed rfl rfl (framed_pushOperand s (s.loc d))
  -- Control transfer (43_control_transfer).
  | boundR16M1616 r m => exact keeps_of_kept rfl rfl (kept_boundCheck s r m)
  | joRel8 rel | jnoRel8 rel | jbRel8 rel | jnbRel8 rel | jzRel8 rel | jnzRel8 rel | jbeRel8 rel | jnbeRel8 rel
  | jsRel8 rel | jnsRel8 rel | jpRel8 rel | jnpRel8 rel | jlRel8 rel | jnlRel8 rel | jleRel8 rel | jnleRel8 rel
  | jcxzRel8 rel => exact keeps_of_framed rfl rfl (Framed.ok (frame_jumpIf s _ rel)).noStore
  | callPtr1616 off sel => exact keeps_of_kept rfl rfl (kept_callFar s sel off)
  | retImm16 _ | ret => exact keeps_of_framed rfl rfl (framed_retNear s _).noStore
  | retfImm16 _ | retf => exact keeps_of_framed rfl rfl (framed_retFar s _).noStore
  | int3 | intImm8 _ => exact keeps_of_kept rfl rfl (kept_hostInterrupt s _)
  | into => exact keeps_of_kept rfl rfl (kept_into s)
  | iret => exact keeps_of_framed rfl rfl (framed_interruptReturn s).noStore
  | loopneRel8 rel | loopeRel8 rel | loopRel8 rel =>
    exact keeps_of_framed rfl rfl (Framed.ok (frame_loopIf s _ rel)).noStore
  | callRel16 _ => exact keeps_of_framed rfl rfl (framed_callNear s _)
  | jmpRel16 _ | jmpRel8 _ => exact keeps_of_framed rfl rfl (Framed.ok (frame_jumpRel s _)).noStore
  | jmpPtr1616 off sel => exact keeps_of_framed rfl rfl (Framed.ok (frame_setCsIp s sel off)).noStore
  | callRm16 d => exact keeps_of_framed rfl rfl (framed_callTo s (s.loc d))
  | callM1616 m => exact keeps_of_kept rfl rfl (kept_callFarAt s m)
  | jmpRm16 d => exact keeps_of_framed rfl rfl (framed_jumpTo s (s.loc d)).noStore
  | jmpM1616 m => exact keeps_of_framed rfl rfl (framed_jumpFar s m).noStore
  -- Strings (45_string_flag_misc).
  | movsb seg rep =>
    cases rep <;>
      exact keeps_of_framed rfl rfl (framed_repeatString (fun t => iterates_movs t 1 seg (by decide)) (by decide) s _ _)
  | movsw seg rep =>
    cases rep <;>
      exact keeps_of_framed rfl rfl (framed_repeatString (fun t => iterates_movs t 2 seg (by decide)) (by decide) s _ _)
  | cmpsb seg rep =>
    cases rep <;>
      exact keeps_of_framed rfl rfl (framed_repeatString (fun t => iterates_cmps t 1 seg) (by decide) s _ _)
  | cmpsw seg rep =>
    cases rep <;>
      exact keeps_of_framed rfl rfl (framed_repeatString (fun t => iterates_cmps t 2 seg) (by decide) s _ _)
  | stosb rep =>
    cases rep <;>
      exact keeps_of_framed rfl rfl (framed_repeatString (fun t => iterates_stos t 1 (by decide)) (by decide) s _ _)
  | stosw rep =>
    cases rep <;>
      exact keeps_of_framed rfl rfl (framed_repeatString (fun t => iterates_stos t 2 (by decide)) (by decide) s _ _)
  | lodsb seg rep =>
    cases rep <;>
      exact keeps_of_framed rfl rfl (framed_repeatString (fun t => iterates_lods t 1 seg) (by decide) s _ _)
  | lodsw seg rep =>
    cases rep <;>
      exact keeps_of_framed rfl rfl (framed_repeatString (fun t => iterates_lods t 2 seg) (by decide) s _ _)
  | scasb rep =>
    cases rep <;>
      exact keeps_of_framed rfl rfl (framed_repeatString (fun t => iterates_scas t 1) (by decide) s _ _)
  | scasw rep =>
    cases rep <;>
      exact keeps_of_framed rfl rfl (framed_repeatString (fun t => iterates_scas t 2) (by decide) s _ _)
  -- Flag control and `HLT` (45_string_flag_misc).
  | hlt => exact keeps_of_framed rfl rfl (Framed.ok (frame_halt s)).noStore
  | cmc | clc | stc => exact keeps_of_framed rfl rfl (Framed.ok (frame_setFlag s .CF _)).noStore
  | cli | sti => exact keeps_of_framed rfl rfl (Framed.ok (frame_setFlag s .IF _)).noStore
  | cld | std => exact keeps_of_framed rfl rfl (Framed.ok (frame_setFlag s .DF _)).noStore
  -- x87 (47_x87_instructions).
  | faddM32 _ | fmulM32 _ | fsubM32 _ | fsubrM32 _ | fdivM32 _ | fdivrM32 _ | faddM64 _ | fmulM64 _ | fsubM64 _
  | fsubrM64 _ | fdivM64 _ | fdivrM64 _ | fiaddM32 _ | fimulM32 _ | fisubM32 _ | fisubrM32 _ | fidivM32 _
  | fidivrM32 _ | fiaddM16 _ | fimulM16 _ | fisubM16 _ | fisubrM16 _ | fidivM16 _ | fidivrM16 _ | faddStSti _
  | fmulStSti _ | fsubStSti _ | fsubrStSti _ | fdivStSti _ | fdivrStSti _ =>
    exact keeps_of_fpFramed rfl rfl rfl (fpFramed_fpArith s _ _ _).noStore
  | fcomM32 _ | fcompM32 _ | fcomM64 _ | fcompM64 _ | ficomM32 _ | ficompM32 _ | ficomM16 _ | ficompM16 _ | fcomSti _
  | fcompSti _ | fcompp => exact keeps_of_fpFramed rfl rfl rfl (fpFramed_fpCompare s _ _).noStore
  | fldM32 _ | fildM32 _ | fldM64 _ | fildM16 _ | fildM64 _ =>
    exact keeps_of_fpFramed rfl rfl rfl (fpFramed_fpLoad s _).noStore
  | fstM32 m | fstpM32 m => exact keeps_of_fpFramed rfl rfl rfl (fpFramed_fpStoreReal s .b32 m _)
  | fldcwM16 m => exact keeps_of_framed rfl rfl (framed_fpLoadControl s m).noStore
  | fnstcwM16 _ | fnstswM16 _ => exact keeps_of_framed rfl rfl (framed_fpWord s _ _ _)
  | fistM32 m | fistpM32 m => exact keeps_of_fpFramed rfl rfl rfl (fpFramed_fpStoreInt s 32 m _ (by decide))
  | fldM80 m => exact keeps_of_fpFramed rfl rfl rfl (fpFramed_fpLoad80 s m).noStore
  | fstpM80 m => exact keeps_of_fpFramed rfl rfl rfl (fpFramed_fpStore s m 10 _ _ (by decide))
  | fstM64 m | fstpM64 m => exact keeps_of_fpFramed rfl rfl rfl (fpFramed_fpStoreReal s .b64 m _)
  | fistM16 m | fistpM16 m => exact keeps_of_fpFramed rfl rfl rfl (fpFramed_fpStoreInt s 16 m _ (by decide))
  | fistpM64 m => exact keeps_of_fpFramed rfl rfl rfl (fpFramed_fpStoreInt s 64 m _ (by decide))
  | fldSti _ | fld1 | fldl2t | fldl2e | fldpi | fldlg2 | fldln2 | fldz =>
    exact keeps_of_fpFramed rfl rfl rfl (fpFramed_fpPush s _ _).noStore
  | fxchSti i => exact keeps_of_fpFramed rfl rfl rfl (fpFramed_fpExchange s i).noStore
  | fchs | fabs | fsqrt | frndint => exact keeps_of_fpFramed rfl rfl rfl (fpFramed_fpUnary s _).noStore
  | ftst => exact keeps_of_fpFramed rfl rfl rfl (fpFramed_fpTest s).noStore
  | fxam => exact keeps_of_framed rfl rfl (Framed.ok (frame_fpExamine s)).noStore
  | fdecstp => exact keeps_of_framed rfl rfl (Framed.ok (frame_setSlots s s.fpu.fr (s.fpu.top - 1))).noStore
  | fincstp => exact keeps_of_framed rfl rfl (Framed.ok (frame_setSlots s s.fpu.fr (s.fpu.top + 1))).noStore
  | fnclex => exact keeps_of_framed rfl rfl (Framed.ok (frame_fpClear s)).noStore
  | fninit => exact keeps_of_framed rfl rfl (Framed.ok (frame_fpInit s)).noStore
  | faddStiSt i | fmulStiSt i | fsubrStiSt i | fsubStiSt i | fdivrStiSt i | fdivStiSt i | faddpStiSt i | fmulpStiSt i
  | fsubrpStiSt i | fsubpStiSt i | fdivrpStiSt i | fdivpStiSt i =>
    exact keeps_of_fpFramed rfl rfl rfl (fpFramed_fpArithTo s _ _ i _).noStore
  | ffreeSti i =>
    exact keeps_of_framed rfl rfl
      (Framed.ok (frame_setSlots s (s.fpu.fr.setTag (s.fpu.phys i) false) s.fpu.top)).noStore
  | fstSti i | fstpSti i => exact keeps_of_fpFramed rfl rfl rfl (fpFramed_fpStoreSt s i _).noStore
  | fnstswAx => exact keeps_of_framed rfl rfl (framed_fpStatusToAx s).noStore

/-! ## What every instruction keeps -/

/-- Under its prefixes an instruction is its body (30_encoding R123; LOG 1). -/
theorem execPrefixed_eq_exec_body (i : Instr) (s : State) : execPrefixed i s = exec i.body s := by
  induction i with
  | esPrefix _ ih | csPrefix _ ih | ssPrefix _ ih | dsPrefix _ ih | lockPrefix _ ih | repnePrefix _ ih
  | repPrefix _ ih => exact ih
  | _ => rfl

theorem exec_eq_exec_body (i : Instr) (s : State) : exec i s = exec i.body s := by
  cases i with
  | esPrefix j | csPrefix j | ssPrefix j | dsPrefix j | lockPrefix j | repnePrefix j | repPrefix j =>
    exact execPrefixed_eq_exec_body j s
  | _ => rfl

theorem exec_leaves {i : Instr} {s t : State} (h : exec i s = .next t) : Leaves i.body s t := by
  have hk := keeps_body i s
  unfold Keeps at hk
  rwa [← exec_eq_exec_body, h] at hk

/-- An instruction that does not hand its state to the host changes nothing outside its tables. -/
theorem exec_frame {i : Instr} {s t : State} (hh : handsOff i = false) (h : exec i s = .next t) :
    Frame (bodyScope i.body) (bodyWrites s i.body) s t := by
  rcases exec_leaves h with ⟨-, hf⟩ | ⟨hb, -⟩
  · exact hf
  · exact absurd (hb.symm.trans hh) (by decide)

/-- Whatever an instruction does, a host handler included, but for `HLT` (60_exceptions R466). -/
theorem exec_kept {i : Instr} {s t : State} (hi : i.body ≠ .hlt) (h : exec i s = .next t) : Kept s t := by
  rcases exec_leaves h with ⟨-, hf⟩ | ⟨-, hk⟩
  · exact hf.kept (bodyHalts_of_ne hi)
  · exact hk

/-- No instruction, nor a host handler, breaks the canonical form of the store (LOG 7). -/
theorem exec_wf {i : Instr} {s t : State} (h : exec i s = .next t) (hw : s.mem.wf = true) : t.mem.wf = true := by
  rcases exec_leaves h with ⟨-, hf⟩ | ⟨-, hk⟩
  · exact hf.wf hw
  · exact hk.wf hw

/-- The parameters and every segment stay, a host handler included (00_scope R12, 10_state R57). -/
theorem exec_params_segSize {i : Instr} {s t : State} (h : exec i s = .next t) :
    t.params = s.params ∧ (s.mem.wf = true → ∀ sel z, s.mem.segSize sel = some z → t.mem.segSize sel = some z) := by
  rcases exec_leaves h with ⟨-, hf⟩ | ⟨-, hk⟩
  · exact ⟨hf.params, fun _ sel z hz => by rwa [Memory.segSize, hf.memSegs]⟩
  · exact ⟨hk.params, hk.segSize⟩

/-! ## The step -/

/-- A step that goes on is of a halted core, or runs one instruction (30_encoding R121, 00_scope R7). -/
theorem step_next_cases {s t : State} (h : step s = .next t) :
    t = s ∨ ∃ (i : Instr) (len : Nat), exec i (s.setIp (s.ip + BitVec.ofNat 16 len)) = .next t := by
  unfold step tick at h
  by_cases hh : s.halted = true
  · rw [if_pos hh] at h
    exact .inl (by cases h; rfl)
  · rw [if_neg hh] at h
    cases hd : decode s.fetched with
    | error e => rw [hd] at h; cases e <;> cases h
    | ok p =>
      obtain ⟨i, len⟩ := p
      refine .inr ⟨i, len, ?_⟩
      rw [hd] at h
      cases he : exec i (s.setIp (s.ip + BitVec.ofNat 16 len)) with
      | next u => simp only [he] at h; exact h
      | fault f => simp [he] at h
      | refused r => simp [he] at h

/-- Settles O53: a step is that of a halted core, or one instruction, and no instruction breaks the canonical form. -/
theorem storeInvariant : Obligations.StoreInvariant := by
  intro s t hw h
  rcases step_next_cases h with rfl | ⟨i, len, he⟩
  · exact hw
  · exact exec_wf he hw

/-- Settles O46, from the frame of every instruction. -/
theorem flagsUnchanged : Obligations.FlagsUnchanged :=
  fun _ _ _ hh h => (exec_frame hh h).flags

/-- Settles O47, from the frame of every instruction. -/
theorem registersUnchanged : Obligations.RegistersUnchanged :=
  fun _ _ _ hh h => (exec_frame hh h).regs

/-- Settles O48: the frame where no handler runs, and what no host move changes where one may. -/
theorem segmentsAndControlUnchanged : Obligations.SegmentsAndControlUnchanged := by
  intro i s t h
  refine ⟨fun hh => ?_, fun hi => (exec_kept hi h).halted, exec_params_segSize h⟩
  have hf := exec_frame hh h
  exact ⟨hf.segs, hf.ip, hf.memSegs⟩

/-! ## Views of registers -/

/-- The bits of the image, in their places (10_state R41). -/
theorem Flags.image_toNat (f : Flags) : f.image.toNat = Spec.imageOf f := by
  obtain ⟨c, p, a, z, n, t, i, d, o⟩ := f
  revert c p a z n t i d o
  decide

/-- The bit of the image at a place: the flags in theirs, bit 1 reads 1, the others 0 (10_state R41). -/
def Flags.bit (f : Flags) : Nat → Bool
  | 0 => f.CF
  | 1 => true
  | 2 => f.PF
  | 4 => f.AF
  | 6 => f.ZF
  | 7 => f.SF
  | 8 => f.TF
  | 9 => f.IF
  | 10 => f.DF
  | 11 => f.OF
  | _ => false

theorem Flags.getLsbD_image (f : Flags) {k : Nat} (hk : k < 16) : f.image.getLsbD k = f.bit k := by
  unfold Flags.image
  interval_cases k <;> simp only [BitVec.getLsbD_append, BitVec.getLsbD_ofBool] <;> rfl

theorem Flags.ofImage_image (f : Flags) : Flags.ofImage f.image = f := by
  simp [Flags.ofImage, Flags.getLsbD_image, Flags.bit, -BitVec.getLsbD_eq_getElem]

theorem Flags.image_ofImage (w : Word) : (Flags.ofImage w).image = (w &&& 0x0FD5) ||| 0x0002 := by
  apply BitVec.eq_of_getLsbD_eq
  intro k hk
  rw [Flags.getLsbD_image _ hk]
  interval_cases k <;> simp [Flags.bit, Flags.ofImage]

theorem Flags.image_reserved (f : Flags) : f.image &&& 0xF02A = 0x0002 := by
  apply BitVec.eq_of_getLsbD_eq
  intro k hk
  rw [BitVec.getLsbD_and, Flags.getLsbD_image _ hk]
  interval_cases k <;> simp [Flags.bit]

/-- Settles O42: the reads are the model's own, the writes keep the other half, the image is read bit by bit. -/
theorem registerViews : Obligations.RegisterViews := by
  refine ⟨fun s v => ⟨?_, fun r q => s.r8_setR8 r q v, fun r q hq => s.r16_setR8_other v hq⟩,
    fun f => ⟨f.image_toNat, f.image_reserved, f.ofImage_image⟩, Flags.image_ofImage⟩
  exact ⟨rfl, rfl, rfl, rfl, rfl, rfl, rfl, rfl⟩

/-! ## Reset -/

/-- Nothing is in bounds in an empty store, so the first fetch fails (70_reset_and_hazards R502). -/
theorem step_reset : step State.reset = .fault (.addressing 0 0) := rfl

/-- The calls of `Reset()` on two states with the same store and parameters agree (70_reset_and_hazards R500). -/
theorem State.hostReset_congr {s t : State} (hm : s.mem = t.mem) (hp : s.params = t.params) :
    s.hostReset = t.hostReset := by
  rw [State.hostReset, State.hostReset, hm, hp]

/-- With `RESET_SS` and `RESET_SP` at the values the spec takes, `Reset()` gives the state of a new core but for the store
and the parameters (00_scope R12, 70_reset_and_hazards R500). -/
theorem State.hostReset_eq_reset {s : State} (hsp : s.params.resetSp = 0xFFFE) (hss : s.params.resetSs = 0) :
    s.hostReset = { State.reset with mem := s.mem, params := s.params } := by
  rw [State.hostReset, State.resetWith, hsp, hss]
  rfl

/-- Settles O54: the values register by register, the first step, and what `Reset()` depends on. -/
theorem resetState : Obligations.ResetState := by
  refine ⟨⟨?regs, ?segs, rfl, rfl, rfl, rfl, ?slots, rfl, rfl, fun _ => rfl, rfl, step_reset⟩, fun _ => ⟨rfl, rfl⟩,
    fun _ _ => State.hostReset_congr, fun _ => rfl, fun _ => State.hostReset_eq_reset⟩
  case regs => intro r; cases r <;> rfl
  case segs => intro g; cases g <;> rfl
  case slots => decide

end Sys2Proof.Machine

/-! PROOFS of the statements about memory and the stack (20_memory): reads and writes of bytes, the stack's round trip, the
bytes an instruction may change, the first access that fails. -/

namespace Sys2Proof.Machine

open Sys2Proof.Spec

/-! ## Reads and writes of bytes -/

/-- The bytes of a number read, low byte first (20_memory R82, R88). -/
theorem Memory.peekN_digit (m : Memory) (sel off : Word) {n k : Nat} (hk : k < n) :
    m.peekN sel off n / 256 ^ k % 256 = (m.peek sel (off + BitVec.ofNat 16 k)).toNat := by
  induction n generalizing off k with
  | zero => omega
  | succ n ih =>
    have hb := (m.peek sel off).isLt
    rw [Memory.peekN]
    cases k with
    | zero => rw [pow_zero, BitVec.add_zero]; omega
    | succ k =>
      have hd : ((m.peek sel off).toNat + 256 * m.peekN sel (off + 1) n) / 256 = m.peekN sel (off + 1) n := by omega
      rw [ofNat_succ16, ← ih (off + 1) (by omega), pow_succ', ← Nat.div_div_eq_div_mul, hd]

/-- The first byte out of bounds is the one below which all are in bounds (20_memory R85, R90). -/
theorem Memory.firstBad_eq_some {m : Memory} {sel off : Word} {n k : Nat} (hk : k < n)
    (hb : ∀ j < k, m.inBounds sel (off + BitVec.ofNat 16 j) = true)
    (ho : m.inBounds sel (off + BitVec.ofNat 16 k) = false) :
    m.firstBad sel off n = some (off + BitVec.ofNat 16 k) := by
  induction n generalizing off k with
  | zero => omega
  | succ n ih =>
    rw [Memory.firstBad]
    cases k with
    | zero => simp_all
    | succ k =>
      have h0 : m.inBounds sel off = true := by simpa using hb 0 (by omega)
      rw [if_pos h0, ofNat_succ16]
      refine ih (by omega) (fun j hj => ?_) ?_
      · rw [← ofNat_succ16]; exact hb (j + 1) (by omega)
      · rwa [← ofNat_succ16]

theorem State.firstBad_of_readable {s : State} {sel off : Word} {n k : Nat} (hk : k < n)
    (hr : s.readable sel off k = true) (ho : s.mem.inBounds sel (off + BitVec.ofNat 16 k) = false) :
    s.mem.firstBad sel off n = some (off + BitVec.ofNat 16 k) :=
  Memory.firstBad_eq_some hk ((Memory.firstBad_eq_none _ _ _ _).1 ((s.readable_iff sel off k).1 hr)) ho

/-- What was written is read back, modulo its width (20_memory R88, R89). -/
theorem State.memRead_pokeN {s : State} (hw : s.mem.wf = true) {sel off : Word} {n : Nat} (v : Nat) (hn : n ≤ 65536)
    (hr : s.readable sel off n = true) :
    State.memRead { s with mem := s.mem.pokeN sel off n v } sel off n = .ok (v % 256 ^ n) := by
  have hb := (Memory.firstBad_eq_none _ _ _ _).1 ((s.readable_iff sel off n).1 hr)
  have hr' : State.readable { s with mem := s.mem.pokeN sel off n v } sel off n = true := by
    rwa [readable_congr (s := s) (Memory.segs_pokeN _ _ _ _ _)]
  rw [State.memRead_ok hr', Memory.peekN_pokeN hw v hn hb]

/-- Settles O43: the bytes of the number read, the bytes written and read back, the first byte out of bounds. -/
theorem memoryReadWrite : Obligations.MemoryReadWrite := by
  intro s sel off n v hn
  refine ⟨fun hr => ⟨⟨_, State.memRead_ok hr, fun k hk => s.mem.peekN_digit sel off hk⟩, _, State.memWrite_ok v hr, rfl,
    Memory.segs_pokeN _ _ _ _ _, fun hw => ?written⟩, fun k hk hr ho => ?outside⟩
  case written =>
    have hb := (Memory.firstBad_eq_none _ _ _ _).1 ((s.readable_iff sel off n).1 hr)
    refine ⟨Memory.wf_pokeN hw v hb, State.memRead_pokeN hw v (by omega) hr, fun k hk => ?_, fun a b hab => ?_⟩
    · rw [Memory.peek_pokeN hw v (by omega) hb hk, BitVec.toNat_ofNat]
    · exact Memory.peek_pokeN_other hw v hb
        (fun k hk he => hab ⟨he.1, (offset_lt_iff off b n (by omega)).2 ⟨k, hk, he.2⟩⟩)
  case outside =>
    simp only [State.memRead, State.memWrite, State.firstBad_of_readable hk hr ho, and_self]

/-! ## The stack -/

/-- What a push that answers says (20_memory R100, R102). -/
theorem State.pushN_inv {s t : State} {n v : Nat} (h : s.pushN n v = .ok t) :
    n ≤ s.gpr.sp.toNat ∧ s.readable s.sreg.ss (s.gpr.sp - BitVec.ofNat 16 n) n = true
      ∧ t = { s with
          mem := s.mem.pokeN s.sreg.ss (s.gpr.sp - BitVec.ofNat 16 n) n v
          gpr := { s.gpr with sp := s.gpr.sp - BitVec.ofNat 16 n } } := by
  unfold State.pushN at h
  split at h
  · cases h
  · rename_i hlt
    cases hr : s.readable s.sreg.ss (s.gpr.sp - BitVec.ofNat 16 n) n with
    | true =>
      rw [State.memWrite_ok v hr] at h
      exact ⟨by omega, rfl, by cases h; rfl⟩
    | false =>
      cases hw : s.memWrite s.sreg.ss (s.gpr.sp - BitVec.ofNat 16 n) n v with
      | ok u => exact absurd ((State.memWrite_inv hw).1.symm.trans hr) (by decide)
      | error f => rw [hw] at h; cases h

/-- The room that a push took ends where the old `SP` stood, within the segment (20_memory R101). -/
theorem State.sp_le_segSize {s : State} {n : Nat} (h0 : 0 < n)
    (hr : s.readable s.sreg.ss (s.gpr.sp - BitVec.ofNat 16 n) n = true) :
    ∃ z, s.mem.segSize s.sreg.ss = some z ∧ s.gpr.sp.toNat ≤ z := by
  have hb := (Memory.firstBad_eq_none _ _ _ _).1 ((s.readable_iff _ _ n).1 hr) (n - 1) (by omega)
  unfold Memory.inBounds at hb
  cases hz : s.mem.segSize s.sreg.ss with
  | none => simp [hz] at hb
  | some z =>
    refine ⟨z, rfl, ?_⟩
    have hlt := s.gpr.sp.isLt
    simp only [hz, decide_eq_true_eq, BitVec.toNat_add, BitVec.toNat_sub, BitVec.toNat_ofNat] at hb
    omega

/-- After a push that answers, a pop of the same width gives the value and `SP` back (20_memory R104). -/
theorem State.popN_of_pushN {s t : State} {n v : Nat} (hw : s.mem.wf = true) (h0 : 0 < n) (h : s.pushN n v = .ok t) :
    t.popN n = .ok (v % 256 ^ n, { t with gpr := s.gpr }) := by
  obtain ⟨hn, hr, rfl⟩ := State.pushN_inv h
  obtain ⟨z, hz, hle⟩ := State.sp_le_segSize h0 hr
  have hlt := s.gpr.sp.isLt
  have hsp : s.gpr.sp - BitVec.ofNat 16 n + BitVec.ofNat 16 n = s.gpr.sp := BitVec.sub_add_cancel _ _
  have hroom : ¬ z < (s.gpr.sp - BitVec.ofNat 16 n).toNat + n := by
    rw [BitVec.toNat_sub, BitVec.toNat_ofNat]; omega
  have hread := State.memRead_pokeN hw v (by omega) hr
  unfold State.memRead at hread
  unfold State.popN State.memRead
  simp only [Memory.segSize_pokeN, hz, if_neg hroom, hread, Except.map, hsp, State.setR16, Gpr.set]

theorem State.pushN_error {s : State} {n : Nat} (v : Nat) (h : s.gpr.sp.toNat < n) :
    s.pushN n v = .error (.addressing s.sreg.ss (s.gpr.sp - BitVec.ofNat 16 n)) := if_pos h

/-- A pop past the segment's end, or with no segment (20_memory R101). -/
theorem State.popN_error {s : State} {n : Nat} (h : ∀ z, s.mem.segSize s.sreg.ss = some z → z < s.gpr.sp.toNat + n) :
    s.popN n = .error (.addressing s.sreg.ss s.gpr.sp) := by
  unfold State.popN
  cases hz : s.mem.segSize s.sreg.ss with
  | none => rfl
  | some z => exact if_pos (h z hz)

/-- Settles O44, from the push and the pop of `n` bytes at `n` = 2 and `n` = 1. -/
theorem pushPop : Obligations.PushPop := by
  intro s hw
  refine ⟨fun v t h => ⟨?_, ?_⟩, fun v t h => ⟨?_, ?_⟩, fun v h => State.pushN_error _ h, fun v h => State.pushN_error _ h,
    fun h => ?_, fun h => ?_⟩
  · obtain ⟨-, -, rfl⟩ := State.pushN_inv h
    rfl
  · rw [State.pop16, State.popN_of_pushN hw (by decide) h, Nat.mod_eq_of_lt (show v.toNat < 256 ^ 2 from v.isLt),
      Except.map, BitVec.ofNat_toNat, BitVec.setWidth_eq]
  · obtain ⟨-, -, rfl⟩ := State.pushN_inv h
    rfl
  · rw [State.pop8, State.popN_of_pushN hw (by decide) h, Nat.mod_eq_of_lt (show v.toNat < 256 ^ 1 from v.isLt),
      Except.map, BitVec.ofNat_toNat, BitVec.setWidth_eq]
  · rw [State.pop16, State.popN_error h]; rfl
  · rw [State.pop8, State.popN_error h]; rfl

/-! ## The bytes an instruction may change -/

/-- `DI` moved by `k` iterations, and nothing else (45_string_flag_misc R311). -/
theorem foldl_advance (s : State) (w k : Nat) :
    (List.range k).foldl (fun u _ => advance u (BitVec.ofNat 16 w) false true) s
      = s.setR16 .di (s.gpr.di + BitVec.ofNat 16 k * s.delta w) := by
  induction k with
  | zero => simp [State.setR16, Gpr.set]
  | succ k ih =>
    have hk : BitVec.ofNat 16 (k + 1) * s.delta w = BitVec.ofNat 16 k * s.delta w + s.delta w := by
      rw [BitVec.ofNat_add, BitVec.add_mul, BitVec.one_mul]
    rw [List.range_succ, List.foldl_append, ih, hk, ← BitVec.add_assoc]
    cases hd : s.flags.DF <;>
      simp [advance, State.delta, State.setR16, Gpr.set, hd, BitVec.sub_eq_add_neg]

/-- The bytes that a repeated string instruction stores in its `k`-th iteration, from those of its first
(45_string_flag_misc R311, R317). -/
theorem bodyStore_foldl_advance {i : Instr} (h : bodyRepeats i = true) (s : State) (k : Nat) :
    bodyStore ((List.range k).foldl (fun u _ => advance u (bodyWidth i) false true) s) i
      = (bodyStore s i).map (fun x => (x.1, x.2.1 + BitVec.ofNat 16 k * s.delta x.2.2, x.2.2)) := by
  cases i with
  | movsb _ _ | stosb _ => exact congrArg (bodyStore · (.stosb none)) (foldl_advance s 1 k)
  | movsw _ _ | stosw _ => exact congrArg (bodyStore · (.stosw none)) (foldl_advance s 2 k)
  | cmpsb _ _ | cmpsw _ _ | lodsb _ _ | lodsw _ _ | scasb _ | scasw _ => rfl
  | _ => cases h

/-- Settles O49, from the frame of every instruction: for a repetition, the bytes of its iterations. -/
theorem memoryUnchanged : Obligations.MemoryUnchanged := by
  intro i s t hw hh h a b
  have hf := (exec_frame hh h).bytes hw a b
  refine ⟨fun hr ht => hf ?_, fun hr ht => hf ?_⟩
  · rw [bodyWrites, show bodyRepeats i.body = false from hr]
    exact ne_true_of_eq_false ht
  · rw [bodyWrites, show bodyRepeats i.body = true from hr]
    rintro ⟨k, hk, hb⟩
    rw [← bodyStore_foldl_advance hr s k] at hb
    exact absurd (hb.symm.trans (ht k hk)) (by decide)

/-! ## The first access that fails -/

/-- `o` answers the fault of the first access of `L` that fails, where one does. Unlike `Accesses`, it says nothing of an
operation whose accesses all pass, so that it holds of an operation with more to do after them. -/
def Faults {α : Type} (s : State) (o : Except Fault α) (L : List Access) : Prop :=
  ∀ a, L.findSome? (Access.failsAt s) = some a → o = .error (.addressing a.1 a.2)

theorem Accesses.faults {α : Type} {s : State} {L : List Access} {o : Except Fault α} {Q : α → Prop}
    (h : Accesses s L o Q) : Faults s o L := by
  intro a ha
  unfold Accesses at h
  rwa [ha] at h

theorem Faults.nil {α : Type} (s : State) (o : Except Fault α) : Faults s o [] := fun _ h => nomatch h

/-- An access to no byte does not fail. -/
theorem Faults.noBytes {α : Type} {s : State} {sel off : Word} {L : List Access} {o : Except Fault α}
    (h : Faults s o L) : Faults s o (.bytes sel off 0 :: L) := h

theorem Faults.bind {α β : Type} {s : State} {L : List Access} {o : Except Fault α} {k : α → Except Fault β}
    (h : Faults s o L) : Faults s (o >>= k) L := fun a ha => by rw [h a ha]; rfl

theorem Faults.map {α β : Type} {s : State} {L : List Access} {o : Except Fault α} {g : α → β} (h : Faults s o L) :
    Faults s (o.map g) L := fun a ha => by rw [h a ha]; rfl

/-- Accesses that may pass, then those of what follows. -/
theorem Accesses.thenFaults {α β : Type} {s : State} {L M : List Access} {o : Except Fault α} {P : α → Prop}
    {k : α → Except Fault β} (h : Accesses s L o P) (hk : ∀ x, P x → Faults s (k x) M) : Faults s (o >>= k) (L ++ M) := by
  intro a ha
  rw [List.findSome?_append] at ha
  unfold Accesses at h
  cases e : L.findSome? (Access.failsAt s) with
  | some b =>
    obtain rfl : b = a := by simpa [e] using ha
    rw [e] at h
    subst h
    rfl
  | none =>
    rw [e] at h
    obtain ⟨x, rfl, hx⟩ := h
    exact hk x hx a (by simpa [e] using ha)

theorem Faults.of_sameBounds {α : Type} {s t : State} {L : List Access} {o : Except Fault α} (h : SameBounds s t)
    (k : Faults t o L) : Faults s o L := by
  unfold Faults at *
  rwa [failsAt_congr h] at k

/-- An instruction answers the fault of its first access that fails. -/
def FirstFault (i : Instr) (s : State) : Prop :=
  ∀ sel off, (accesses i s).findSome? (Access.failsAt s) = some (sel, off) → exec i s = .fault (.addressing sel off)

theorem firstFault_of {i : Instr} {s : State} {o : Except Fault State} (e : exec i s = finish o)
    (h : Faults s o (accesses i s)) : FirstFault i s := fun sel off ha => by
  rw [e, h (sel, off) ha]; rfl

theorem firstFault_of_noAccess {i : Instr} {s : State} (e : accesses i s = []) : FirstFault i s :=
  fun _ _ ha => by rw [e] at ha; cases ha

/-! ## Operands -/

/-- The access to a location of `n` bytes: none to a register. -/
def locAccesses {ρ : Type} (n : Nat) : Loc ρ → List Access
  | .reg _ => []
  | .mem sel off => [.bytes sel off n]

theorem accesses_get8 (s : State) (l : Loc R8) : Accesses s (locAccesses 1 l) (s.get8 l) (fun _ => True) := by
  cases l with
  | reg r => exact .pure trivial
  | mem sel off => exact accesses_readBits s sel off 1

theorem accesses_get16 (s : State) (l : Loc R16) : Accesses s (locAccesses 2 l) (s.get16 l) (fun _ => True) := by
  cases l with
  | reg r => exact .pure trivial
  | mem sel off => exact accesses_readBits s sel off 2

theorem faults_put8 (s : State) (l : Loc R8) (v : Byte) : Faults s (s.put8 l v) (locAccesses 1 l) := by
  cases l with
  | reg r => exact .nil s _
  | mem sel off => exact (accesses_memWrite s sel off 1 _).faults

theorem faults_put16 (s : State) (l : Loc R16) (v : Word) : Faults s (s.put16 l v) (locAccesses 2 l) := by
  cases l with
  | reg r => exact .nil s _
  | mem sel off => exact (accesses_memWrite s sel off 2 _).faults

/-- An instruction that reads its byte operand before it touches any other memory. -/
theorem firstFault_get8 {i : Instr} {s : State} {l : Loc R8} {k : Byte → Except Fault State}
    (e : exec i s = finish (s.get8 l >>= k)) (hl : accesses i s = locAccesses 1 l) : FirstFault i s :=
  firstFault_of e (by rw [hl]; exact (accesses_get8 s l).faults.bind)

theorem firstFault_get16 {i : Instr} {s : State} {l : Loc R16} {k : Word → Except Fault State}
    (e : exec i s = finish (s.get16 l >>= k)) (hl : accesses i s = locAccesses 2 l) : FirstFault i s :=
  firstFault_of e (by rw [hl]; exact (accesses_get16 s l).faults.bind)

/-- An instruction that only writes its operand. -/
theorem firstFault_put8 {i : Instr} {s : State} {l : Loc R8} {v : Byte} (e : exec i s = finish (s.put8 l v))
    (hl : accesses i s = locAccesses 1 l) : FirstFault i s :=
  firstFault_of e (by rw [hl]; exact faults_put8 s l v)

theorem firstFault_put16 {i : Instr} {s : State} {l : Loc R16} {v : Word} (e : exec i s = finish (s.put16 l v))
    (hl : accesses i s = locAccesses 2 l) : FirstFault i s :=
  firstFault_of e (by rw [hl]; exact faults_put16 s l v)

/-- The bytes of a run are those of its head, then those of its tail. -/
theorem Memory.firstBad_add (m : Memory) (sel off : Word) (j k : Nat) :
    m.firstBad sel off (j + k) = (m.firstBad sel off j).or (m.firstBad sel (off + BitVec.ofNat 16 j) k) := by
  induction j generalizing off with
  | zero => simp [Memory.firstBad]
  | succ j ih =>
    rw [Nat.succ_add, Memory.firstBad, Memory.firstBad, ofNat_succ16]
    split
    · exact ih (off + 1)
    · rfl

/-- The first failing access of a run of bytes: at its first byte out of bounds. -/
theorem findSome_bytes (s : State) (sel off : Word) (n : Nat) :
    [Access.bytes sel off n].findSome? (Access.failsAt s) = (s.mem.firstBad sel off n).map (fun b => (sel, b)) := by
  simp [Access.failsAt, missing_eq]

theorem findSome_bytes_add (s : State) (sel off : Word) (j k : Nat) :
    [Access.bytes sel off (j + k)].findSome? (Access.failsAt s)
      = ([Access.bytes sel off j] ++ [Access.bytes sel (off + BitVec.ofNat 16 j) k]).findSome? (Access.failsAt s) := by
  rw [List.findSome?_append, findSome_bytes, findSome_bytes, findSome_bytes, Memory.firstBad_add]
  cases s.mem.firstBad sel off j <;> rfl

/-- A far pointer or a pair of bounds: two words, the second of them the selector (20_memory R92). -/
theorem accesses_readPair (s : State) (sel off : Word) :
    Accesses s [.bytes sel off 4] (s.readPair sel off) (fun p => p.2 = memWord s sel (off + 2)) := by
  have h : Accesses s ([.bytes sel off 2] ++ [.bytes sel (off + 2) 2]) (s.readPair sel off) (fun _ => True) :=
    (accesses_readBits s sel off 2).bind
      (fun _ _ => (accesses_readBits s sel (off + 2) 2).bind (M := []) (fun _ _ => .pure trivial))
  unfold Accesses at h ⊢
  rw [show off + 2 = off + BitVec.ofNat 16 2 from rfl, ← findSome_bytes_add] at h
  rw [findSome_bytes] at h ⊢
  cases hb : s.mem.firstBad sel off 4 with
  | some b => simpa [hb] using h
  | none => exact ⟨_, State.readPair_ok ((s.readable_iff sel off 4).2 hb), rfl⟩

/-- `XLAT`'s offset: `AL` is added unsigned, the sum wraps (40_data_movement R178). -/
theorem xlat_offset (s : State) :
    s.gpr.bx + (s.r8 .al).setWidth 16 = BitVec.ofNat 16 (s.gpr.bx.toNat + s.gpr.ax.toNat % 256) := by
  apply BitVec.eq_of_toNat_eq
  have h : (s.r8 .al).toNat = s.gpr.ax.toNat % 256 := by
    simp [State.r8, isHigh, lowByte, State.r16, parentOf, Gpr.get]
  simp only [BitVec.toNat_add, BitVec.toNat_setWidth, BitVec.toNat_ofNat, h]
  omega

/-! ## The stack -/

theorem pushesAt_one (sp : Word) : pushesAt sp 1 = [.push sp] := pushesAt_succ sp 0

theorem popsAt_one (sp : Word) : popsAt sp 1 = [.pop sp] := popsAt_succ sp 0

theorem faults_push16 (s : State) (v : Word) : Faults s (s.push16 v) (pushesAt s.gpr.sp 1) := by
  rw [pushesAt_one]
  exact (accesses_push16 s v).faults

theorem faults_pop16 (s : State) : Faults s s.pop16 (popsAt s.gpr.sp 1) := by
  rw [popsAt_one]
  exact (accesses_pop16 s).faults

/-- A push, then what follows on the state it leaves. -/
theorem faults_pushThen {α : Type} {s : State} {v : Word} {M : List Access} {k : State → Except Fault α}
    (hk : ∀ t, SameBounds s t → t.gpr = { s.gpr with sp := s.gpr.sp - 2 } → Faults t (k t) M) :
    Faults s (s.push16 v >>= k) (.push s.gpr.sp :: M) :=
  (accesses_push16 s v).thenFaults (fun t ⟨hb, hg, _⟩ => (hk t hb hg).of_sameBounds hb)

/-- A pop, then what follows on the state it leaves. -/
theorem faults_popThen {α : Type} {s : State} {M : List Access} {k : Word × State → Except Fault α}
    (hk : ∀ v, Faults (s.setR16 .sp (s.gpr.sp + 2)) (k (v, s.setR16 .sp (s.gpr.sp + 2))) M) :
    Faults s (s.pop16 >>= k) (.pop s.gpr.sp :: M) :=
  (accesses_pop16 s).thenFaults (fun p hp => by
    obtain ⟨v, t⟩ := p
    subst hp
    exact (hk v).of_sameBounds ⟨rfl, rfl⟩)

theorem faults_popOperand (s : State) (l : Loc R16) :
    Faults s (s.popOperand l) (popsAt s.gpr.sp 1 ++ locAccesses 2 l) := by
  rw [popsAt_one]
  exact faults_popThen (fun v => faults_put16 _ l v)

/-- `POP r/m16`: the operand's own access is of no byte, the write is the second access (44_stack R291). -/
theorem firstFault_popRm16 (d : Rm16) (s : State) : FirstFault (.popRm16 d) s := by
  cases d with
  | reg r => exact firstFault_of rfl (faults_popOperand s (.reg r))
  | mem m => exact firstFault_of rfl (faults_popOperand s (.mem (s.sel m) (s.off m))).noBytes

theorem faults_popReg (s : State) (r : R16) : Faults s (s.popReg r) (popsAt s.gpr.sp 1) := (faults_pop16 s).bind

/-- Registers popped one after another, none of them `SP`. -/
theorem faults_popRegThen {α : Type} {s : State} {r : R16} {n : Nat} {M : List Access} {k : State → Except Fault α}
    (hr : r ≠ .sp) (hk : ∀ t, t.gpr.sp = s.gpr.sp + 2 → Faults t (k t) (popsAt t.gpr.sp n ++ M)) :
    Faults s (s.popReg r >>= k) (popsAt s.gpr.sp (n + 1) ++ M) := by
  rw [popsAt_succ]
  refine (accesses_popReg s r).thenFaults (fun t ⟨hb, hsp⟩ => ?_)
  have h := hk t (hsp hr)
  rw [hsp hr] at h
  exact h.of_sameBounds hb

theorem faults_popAll (s : State) : Faults s s.popAll (popsAt s.gpr.sp 3 ++ popsAt (s.gpr.sp + 8) 4) := by
  refine faults_popRegThen (by decide) (fun a ha => faults_popRegThen (by decide) (fun b hb =>
    faults_popRegThen (by decide) (fun c hc => ?_)))
  have hd : s.gpr.sp + 8 = (c.setR16 .sp (c.gpr.sp + 2)).gpr.sp := by
    show s.gpr.sp + 8 = c.gpr.sp + 2
    rw [hc, hb, ha]
    simp only [BitVec.add_assoc]
    rfl
  rw [hd, ← List.append_nil (popsAt _ 4)]
  refine Faults.of_sameBounds (t := c.setR16 .sp (c.gpr.sp + 2)) ⟨rfl, rfl⟩ ?_
  exact faults_popRegThen (by decide) (fun _ _ => faults_popRegThen (by decide) (fun _ _ =>
    faults_popRegThen (by decide) (fun d _ => faults_popReg d .ax)))

theorem faults_leaveFrame (s : State) : Faults s s.leaveFrame (popsAt s.gpr.bp 1) := by
  exact (faults_popReg (s.setR16 .sp s.gpr.bp) .bp).of_sameBounds ⟨rfl, rfl⟩

theorem faults_pushOperand (s : State) (l : Loc R16) :
    Faults s (s.pushOperand l) (locAccesses 2 l ++ pushesAt s.gpr.sp 1) :=
  (accesses_get16 s l).thenFaults (fun v _ => faults_push16 s v)

theorem faults_callTo (s : State) (l : Loc R16) : Faults s (s.callTo l) (locAccesses 2 l ++ pushesAt s.gpr.sp 1) :=
  (accesses_get16 s l).thenFaults (fun _ _ => (faults_push16 s s.ip).bind)

theorem faults_retFar (s : State) (v : Word) : Faults s (s.retFar v) (popsAt s.gpr.sp 2) := by
  rw [popsAt_succ]
  exact faults_popThen (fun _ => (faults_pop16 _).bind)

theorem faults_interruptReturn (s : State) : Faults s s.interruptReturn (popsAt s.gpr.sp 3) := by
  rw [popsAt_succ, popsAt_succ]
  exact faults_popThen (fun _ => faults_popThen (fun _ => (faults_pop16 _).bind))

/-- The pushes of a far call: none where the selector is the host's (43_control_transfer R262, R266). -/
def farCallAccesses (s : State) (sel : Word) : List Access :=
  if sel ∈ s.params.hostFarSelectors then [] else pushesAt s.gpr.sp 2

theorem faults_callFar (s : State) (sel off : Word) : Faults s (s.callFar sel off) (farCallAccesses s sel) := by
  unfold State.callFar farCallAccesses
  split
  · exact .nil s _
  · rw [pushesAt_succ]
    refine faults_pushThen (fun t _ hg => ?_)
    have h := (faults_push16 t s.ip).bind (k := fun u => pure (u.setCsIp sel off))
    rwa [hg] at h

theorem faults_callFarAt (s : State) (m : Mem) :
    Faults s (s.callFarAt m)
      ([.bytes (s.sel m) (s.off m) 4] ++ farCallAccesses s (memWord s (s.sel m) (s.off m + 2))) :=
  (accesses_readPair s _ _).thenFaults (fun p hp => by rw [← hp]; exact faults_callFar s p.2 p.1)

/-- The accesses of `ENTER`'s copies, from the `BP` and the `SP` that the instruction starts with (44_stack R296). -/
def copiesAt (ss bp sp : Word) (n : Nat) : List Access :=
  (List.range n).flatMap fun j =>
    [.bytes ss (bp - BitVec.ofNat 16 (2 * (j + 1))) 2, .push (sp - BitVec.ofNat 16 (2 * (j + 1)))]

theorem copiesAt_succ (ss bp sp : Word) (n : Nat) :
    copiesAt ss bp sp (n + 1) = .bytes ss (bp - 2) 2 :: .push (sp - 2) :: copiesAt ss (bp - 2) (sp - 2) n := by
  unfold copiesAt
  rw [List.range_succ_eq_map, List.flatMap_cons, List.flatMap_map]
  simp only [Nat.succ_eq_add_one, sub_two_succ _ (_ + 1)]
  rfl

/-- The copies of `ENTER`, each a read and a push, then what follows (44_stack R296). -/
theorem faults_copyThen {α : Type} {M : List Access} {k : State → Except Fault α} :
    ∀ (n : Nat) (s : State) (sp : Word), s.gpr.sp = sp - 2 →
      (∀ t, t.gpr.sp = sp - BitVec.ofNat 16 (2 * (n + 1)) → Faults t (k t) M) →
      Faults s (s.copyFrames n >>= k) (copiesAt s.sreg.ss s.gpr.bp sp n ++ M)
  | 0, s, sp, hsp, hk => hk s hsp
  | n + 1, s, sp, hsp, hk => by
    have e : s.copyFrames (n + 1) >>= k = (s.setR16 .bp (s.gpr.bp - 2)).read16 s.sreg.ss (s.gpr.bp - 2) >>= fun v =>
        (s.setR16 .bp (s.gpr.bp - 2)).push16 v >>= fun t => t.copyFrames n >>= k := by
      simp only [State.copyFrames, bind_assoc]
      rfl
    rw [e, copiesAt_succ]
    refine Faults.of_sameBounds (t := s.setR16 .bp (s.gpr.bp - 2)) ⟨rfl, rfl⟩ ?_
    refine (accesses_readBits _ s.sreg.ss (s.gpr.bp - 2) 2).thenFaults (fun v _ => ?_)
    rw [← hsp]
    refine faults_pushThen (fun t hb hg => ?_)
    have ih := faults_copyThen (M := M) (k := k) n t (sp - 2) (by rw [hg, ← hsp]; rfl)
      (fun u hu => hk u (by rw [hu, sub_two_succ sp (n + 1)]))
    rw [hb.ss, hg, ← hsp] at ih
    exact ih

theorem enterLevel_eq (level : Byte) : (level &&& 0x1F).toNat = level.toNat % 32 := by
  rw [BitVec.toNat_and]
  exact Nat.and_two_pow_sub_one_eq_mod _ 5

theorem faults_enterFrame (s : State) (size : Word) (level : Byte) :
    Faults s (s.enterFrame size level)
      (pushesAt s.gpr.sp 1 ++ if level.toNat % 32 = 0 then [] else
        copiesAt s.sreg.ss s.gpr.bp s.gpr.sp (level.toNat % 32 - 1)
          ++ [.push (s.gpr.sp - BitVec.ofNat 16 (2 * (level.toNat % 32)))]) := by
  rw [pushesAt_one, List.singleton_append]
  unfold State.enterFrame
  simp only [enterLevel_eq]
  refine faults_pushThen (fun t hb hg => ?_)
  by_cases h0 : level.toNat % 32 = 0
  · simp only [if_pos h0]
    exact .nil t _
  · have hbp : t.gpr.bp = s.gpr.bp := by rw [hg]
    have hsp : t.gpr.sp = s.gpr.sp - 2 := by rw [hg]
    simp only [if_neg h0]
    rw [← hb.ss, ← hbp]
    refine faults_copyThen _ t s.gpr.sp hsp (fun u hu => ?_)
    rw [Nat.sub_add_cancel (Nat.one_le_iff_ne_zero.2 h0)] at hu
    rw [← hu]
    exact (accesses_push16 u _).faults.bind

/-! ## Strings -/

theorem faults_movsIter (s : State) (w : Nat) (g : SReg) :
    Faults s (s.movsIter w g) ([.bytes (s.seg g) s.gpr.si w] ++ [.bytes s.sreg.es s.gpr.di w]) :=
  (accesses_memRead s _ _ w).thenFaults (fun v _ => (accesses_memWrite s _ _ w v).faults.bind)

theorem faults_cmpsIter (s : State) (w : Nat) (g : SReg) :
    Faults s (s.cmpsIter w g) ([.bytes (s.seg g) s.gpr.si w] ++ [.bytes s.sreg.es s.gpr.di w]) :=
  (accesses_readBits s _ _ w).thenFaults (fun _ _ => (accesses_readBits s _ _ w).faults.bind)

theorem faults_lodsIter (s : State) (w : Nat) (g : SReg) :
    Faults s (s.lodsIter w g) [.bytes (s.seg g) s.gpr.si w] := (accesses_memRead s _ _ w).faults.bind

theorem faults_stosIter (s : State) (w : Nat) : Faults s (s.stosIter w) [.bytes s.sreg.es s.gpr.di w] :=
  (accesses_memWrite s _ _ w _).faults.bind

theorem faults_scasIter (s : State) (w : Nat) : Faults s (s.scasIter w) [.bytes s.sreg.es s.gpr.di w] :=
  (accesses_readBits s _ _ w).faults.bind

/-- The first iteration's accesses, none where a repetition starts with `CX` = 0 (45_string_flag_misc R317). -/
theorem faults_repeatString {s : State} {iter : State → Except Fault State} {L : List Access} (rep : Option Rep)
    (compares : Bool) (h : Faults s (iter s) L) :
    Faults s (s.repeatString rep compares iter) (if rep.isSome = true ∧ s.gpr.cx = 0 then [] else L) := by
  cases rep with
  | none =>
    rw [if_neg (fun e => nomatch e.1)]
    exact h
  | some r =>
    by_cases hc : s.gpr.cx = 0
    · rw [if_pos ⟨rfl, hc⟩]
      exact .nil s _
    · rw [if_neg (fun e => hc e.2)]
      obtain ⟨n, hn⟩ : ∃ n, s.gpr.cx.toNat = n + 1 :=
        Nat.exists_eq_succ_of_ne_zero (fun e => hc (BitVec.eq_of_toNat_eq e))
      simp only [State.repeatString, hn, repLoop]
      exact h.bind

/-! ## x87 -/

/-- An x87 operation that passes its check (47_x87_instructions R394). -/
theorem faults_check {α : Type} {s : State} {reads : List StIdx} {pushes : Bool} {L : List Access}
    {k : Unit → Except Fault α} (hr : s.fpuReady reads pushes = true) (h : Faults s (k ()) L) :
    Faults s (s.fpuCheck reads pushes >>= k) L := by
  rw [State.fpuCheck_ok hr]
  exact h

/-- The access to a source: none to a slot. -/
def srcAccesses (s : State) : FpSrc → List Access
  | .real f m => [.bytes (s.sel m) (s.off m) f.bytes]
  | .int k m => [.bytes (s.sel m) (s.off m) (k / 8)]
  | .st _ => []

theorem faults_fpSource (s : State) (src : FpSrc) : Faults s (s.fpSource src) (srcAccesses s src) := by
  cases src with
  | real f m => exact (accesses_memRead s _ _ f.bytes).faults.map
  | int k m => exact (accesses_memRead s _ _ (k / 8)).faults.map
  | st i => exact .nil s _

theorem faults_fpArith {s : State} {src : FpSrc} (op : FpOp) (rev : Bool)
    (hr : s.fpuReady (0 :: src.slots) false = true) : Faults s (s.fpArith op rev src) (srcAccesses s src) :=
  faults_check hr (faults_fpSource s src).bind

theorem faults_fpCompare {s : State} {src : FpSrc} (pops : Nat) (hr : s.fpuReady (0 :: src.slots) false = true) :
    Faults s (s.fpCompare src pops) (srcAccesses s src) :=
  faults_check hr (faults_fpSource s src).bind

theorem faults_fpLoad {s : State} {src : FpSrc} (hr : s.fpuReady src.slots true = true) :
    Faults s (s.fpLoad src) (srcAccesses s src) :=
  faults_check hr (faults_fpSource s src).bind

theorem faults_fpLoad80 {s : State} (m : Mem) (hr : s.fpuReady [] true = true) :
    Faults s (s.fpLoad80 m) [.bytes (s.sel m) (s.off m) 10] :=
  faults_check hr (accesses_readBits s _ _ 10).faults.bind

theorem faults_fpStore {s : State} (m : Mem) (n : Nat) (r : Nat × ExcFlags) (pops : Nat)
    (hr : s.fpuReady [0] false = true) : Faults s (s.fpStore m n r pops) [.bytes (s.sel m) (s.off m) n] :=
  faults_check hr (accesses_memWrite s _ _ n r.1).faults.bind

/-! ## Every instruction -/

/-- The case split over the instructions: each does its accesses in order, the operand's first. -/
theorem firstFault_body (i : Instr) (s : State) (hr : s.fpuReady (slotsRead i.body) (pushesFp i.body) = true) :
    FirstFault i.body s := by
  induction i with
  -- Under its own prefixes an instruction has the same body.
  | esPrefix _ ih | csPrefix _ ih | ssPrefix _ ih | dsPrefix _ ih | lockPrefix _ ih | repnePrefix _ ih
  | repPrefix _ ih => exact ih hr
  -- A byte operand read first.
  | addRm8R8 d _ | orRm8R8 d _ | adcRm8R8 d _ | sbbRm8R8 d _ | andRm8R8 d _ | subRm8R8 d _ | xorRm8R8 d _
  | addRm8Imm8 d _ | orRm8Imm8 d _ | adcRm8Imm8 d _ | sbbRm8Imm8 d _ | andRm8Imm8 d _ | subRm8Imm8 d _
  | xorRm8Imm8 d _ | cmpRm8R8 d _ | cmpRm8Imm8 d _ | testRm8R8 d _ | testRm8Imm8 d _
  | addR8Rm8 _ d | orR8Rm8 _ d | adcR8Rm8 _ d | sbbR8Rm8 _ d | andR8Rm8 _ d | subR8Rm8 _ d | xorR8Rm8 _ d
  | cmpR8Rm8 _ d | movR8Rm8 _ d | xchgR8Rm8 _ d
  | notRm8 d | negRm8 d | mulRm8 d | imulRm8 d | divRm8 d | idivRm8 d | incRm8 d | decRm8 d
  | rolRm8Imm8 d _ | rorRm8Imm8 d _ | rclRm8Imm8 d _ | rcrRm8Imm8 d _ | shlRm8Imm8 d _ | shrRm8Imm8 d _
  | sarRm8Imm8 d _ | rolRm8One d | rorRm8One d | rclRm8One d | rcrRm8One d | shlRm8One d | shrRm8One d | sarRm8One d
  | rolRm8Cl d | rorRm8Cl d | rclRm8Cl d | rcrRm8Cl d | shlRm8Cl d | shrRm8Cl d | sarRm8Cl d =>
    exact firstFault_get8 (l := s.loc d) rfl (by cases d <;> rfl)
  -- A word operand read first.
  | addRm16R16 d _ | orRm16R16 d _ | adcRm16R16 d _ | sbbRm16R16 d _ | andRm16R16 d _ | subRm16R16 d _
  | xorRm16R16 d _ | cmpRm16R16 d _ | addRm16Imm16 d _ | orRm16Imm16 d _ | adcRm16Imm16 d _ | sbbRm16Imm16 d _
  | andRm16Imm16 d _ | subRm16Imm16 d _ | xorRm16Imm16 d _ | cmpRm16Imm16 d _ | addRm16Imm8 d _ | orRm16Imm8 d _
  | adcRm16Imm8 d _ | sbbRm16Imm8 d _ | andRm16Imm8 d _ | subRm16Imm8 d _ | xorRm16Imm8 d _ | cmpRm16Imm8 d _
  | testRm16R16 d _ | testRm16Imm16 d _
  | addR16Rm16 _ d | orR16Rm16 _ d | adcR16Rm16 _ d | sbbR16Rm16 _ d | andR16Rm16 _ d | subR16Rm16 _ d
  | xorR16Rm16 _ d | cmpR16Rm16 _ d | imulR16Rm16Imm16 _ d _ | imulR16Rm16Imm8 _ d _ | movR16Rm16 _ d
  | xchgR16Rm16 _ d | movEsRm16 d | movSsRm16 d | movDsRm16 d | jmpRm16 d
  | notRm16 d | negRm16 d | mulRm16 d | imulRm16 d | divRm16 d | idivRm16 d | incRm16 d | decRm16 d
  | rolRm16Imm8 d _ | rorRm16Imm8 d _ | rclRm16Imm8 d _ | rcrRm16Imm8 d _ | shlRm16Imm8 d _ | shrRm16Imm8 d _
  | sarRm16Imm8 d _ | rolRm16One d | rorRm16One d | rclRm16One d | rcrRm16One d | shlRm16One d | shrRm16One d
  | sarRm16One d | rolRm16Cl d | rorRm16Cl d | rclRm16Cl d | rcrRm16Cl d | shlRm16Cl d | shrRm16Cl d | sarRm16Cl d =>
    exact firstFault_get16 (l := s.loc d) rfl (by cases d <;> rfl)
  -- An operand written only, or at an offset of the instruction's own.
  | movRm8R8 d _ | movRm8Imm8 d _ => exact firstFault_put8 (l := s.loc d) rfl (by cases d <;> rfl)
  | movRm16R16 d _ | movRm16Es d | movRm16Cs d | movRm16Ss d | movRm16Ds d | movRm16Imm16 d _ =>
    exact firstFault_put16 (l := s.loc d) rfl (by cases d <;> rfl)
  | movAlMoffs8 g off => exact firstFault_get8 (l := .mem (s.seg g) off) rfl rfl
  | movAxMoffs16 g off => exact firstFault_get16 (l := .mem (s.seg g) off) rfl rfl
  | movMoffs8Al g off => exact firstFault_put8 (l := .mem (s.seg g) off) rfl rfl
  | movMoffs16Ax g off => exact firstFault_put16 (l := .mem (s.seg g) off) rfl rfl
  | xlat g => exact firstFault_get8 (l := .mem (s.seg g) _) rfl (by rw [xlat_offset]; rfl)
  | lesR16M1616 _ m | ldsR16M1616 _ m | boundR16M1616 _ m | jmpM1616 m =>
    exact firstFault_of rfl (accesses_readPair s (s.sel m) (s.off m)).faults.bind
  | leaR16M r m => exact firstFault_of (o := .ok (s.setR16 r (s.off m))) rfl (Faults.nil s _).noBytes
  -- The stack (44_stack), near and far calls and returns (43_control_transfer).
  | pushEs | pushCs | pushSs | pushDs | pushR16 _ | pushImm16 _ | pushImm8 _ | pushf =>
    exact firstFault_of rfl (faults_push16 s _)
  | callRel16 _ => exact firstFault_of rfl (faults_push16 s s.ip).bind
  | popEs | popSs | popDs | popR16 _ | popf | ret | retImm16 _ => exact firstFault_of rfl (faults_pop16 s).bind
  | pusha => exact firstFault_of rfl (accesses_pushList _ s).faults
  | popa => exact firstFault_of rfl (faults_popAll s)
  | pushRm16 d => exact firstFault_of rfl (by cases d <;> exact faults_pushOperand s _)
  | popRm16 d => exact firstFault_popRm16 d s
  | enterImm16Imm8 size level => exact firstFault_of rfl (faults_enterFrame s size level)
  | leave => exact firstFault_of rfl (faults_leaveFrame s)
  | callRm16 d => exact firstFault_of rfl (by cases d <;> exact faults_callTo s _)
  | callPtr1616 off sel => exact firstFault_of rfl (faults_callFar s sel off)
  | callM1616 m => exact firstFault_of rfl (faults_callFarAt s m)
  | retf | retfImm16 _ => exact firstFault_of rfl (faults_retFar s _)
  | iret => exact firstFault_of rfl (faults_interruptReturn s)
  -- Strings (45_string_flag_misc).
  | movsb g rep => exact firstFault_of rfl (faults_repeatString rep _ (faults_movsIter s 1 g))
  | movsw g rep => exact firstFault_of rfl (faults_repeatString rep _ (faults_movsIter s 2 g))
  | cmpsb g rep => exact firstFault_of rfl (faults_repeatString rep _ (faults_cmpsIter s 1 g))
  | cmpsw g rep => exact firstFault_of rfl (faults_repeatString rep _ (faults_cmpsIter s 2 g))
  | lodsb g rep => exact firstFault_of rfl (faults_repeatString rep _ (faults_lodsIter s 1 g))
  | lodsw g rep => exact firstFault_of rfl (faults_repeatString rep _ (faults_lodsIter s 2 g))
  | stosb rep => exact firstFault_of rfl (faults_repeatString rep _ (faults_stosIter s 1))
  | stosw rep => exact firstFault_of rfl (faults_repeatString rep _ (faults_stosIter s 2))
  | scasb rep => exact firstFault_of rfl (faults_repeatString rep _ (faults_scasIter s 1))
  | scasw rep => exact firstFault_of rfl (faults_repeatString rep _ (faults_scasIter s 2))
  -- x87, once the check has passed (47_x87_instructions).
  | faddM32 m | fmulM32 m | fsubM32 m | fsubrM32 m | fdivM32 m | fdivrM32 m | faddM64 m | fmulM64 m | fsubM64 m
  | fsubrM64 m | fdivM64 m | fdivrM64 m | fiaddM32 m | fimulM32 m | fisubM32 m | fisubrM32 m | fidivM32 m
  | fidivrM32 m | fiaddM16 m | fimulM16 m | fisubM16 m | fisubrM16 m | fidivM16 m | fidivrM16 m =>
    exact firstFault_of rfl (faults_fpArith _ _ hr)
  | fcomM32 m | fcompM32 m | fcomM64 m | fcompM64 m | ficomM32 m | ficompM32 m | ficomM16 m | ficompM16 m =>
    exact firstFault_of rfl (faults_fpCompare _ hr)
  | fldM32 m | fldM64 m | fildM16 m | fildM32 m | fildM64 m => exact firstFault_of rfl (faults_fpLoad hr)
  | fldM80 m => exact firstFault_of rfl (faults_fpLoad80 m hr)
  | fstM32 m | fstpM32 m | fstM64 m | fstpM64 m | fistM16 m | fistpM16 m | fistM32 m | fistpM32 m | fistpM64 m
  | fstpM80 m => exact firstFault_of rfl (faults_fpStore m _ _ _ hr)
  | fldcwM16 m => exact firstFault_of rfl (accesses_readBits s (s.sel m) (s.off m) 2).faults.bind
  | fnstcwM16 m | fnstswM16 m => exact firstFault_of rfl (accesses_memWrite s (s.sel m) (s.off m) 2 _).faults
  -- The rest access no memory.
  | _ => exact firstFault_of_noAccess rfl

/-- The operand's first byte out of bounds is the first access that fails (60_exceptions R464). -/
theorem findSome_accesses_of_operandAt {i : Instr} {s : State} {sel off : Word} {n k : Nat}
    (h : operandAt i s = some (sel, off, n)) (hk : k < n) (hr : s.readable sel off k = true)
    (ho : s.mem.inBounds sel (off + BitVec.ofNat 16 k) = false) :
    (accesses i s).findSome? (Access.failsAt s) = some (sel, off + BitVec.ofNat 16 k) := by
  have e : accesses i s = [.bytes sel off n] ++ furtherAccesses i s := by rw [accesses, h]; rfl
  rw [e, List.findSome?_append, findSome_bytes, State.firstBad_of_readable hk hr ho]
  rfl

/-- Settles O51: the first access that fails is the fault, and where the operand has a byte out of bounds, it is that. -/
theorem operandFaults : Obligations.OperandFaults := by
  intro i s hr
  have h : ∀ sel off, (accesses i.body s).findSome? (Access.failsAt s) = some (sel, off) →
      exec i s = .fault (.addressing sel off) := by
    rw [exec_eq_exec_body]
    exact firstFault_body i s hr
  exact ⟨fun sel off n k hop hk hread ho => h _ _ (findSome_accesses_of_operandAt hop hk hread ho), h⟩

end Sys2Proof.Machine

/-! PROOFS of the statements about decoding and encoding (30_encoding): what each part of the decoder reads and how the
encoder writes it, the opcode table walked once on the decoder's side and the instructions once on the encoder's, and
the prefixes. -/

namespace Sys2Proof

/-! ## Fields -/

@[simp] theorem R16.ofNum_num (r : R16) : R16.ofNum r.num = r := by cases r <;> rfl

@[simp] theorem R16.num_ofNum (n : BitVec 3) : (R16.ofNum n).num = n := by decide +revert

@[simp] theorem R8.ofNum_num (r : R8) : R8.ofNum r.num = r := by cases r <;> rfl

@[simp] theorem R8.num_ofNum (n : BitVec 3) : (R8.ofNum n).num = n := by decide +revert

@[simp] theorem Base.ofNum_num (b : Base) : Base.ofNum b.num = b := by cases b <;> rfl

@[simp] theorem Base.num_ofNum (n : BitVec 3) : (Base.ofNum n).num = n := by decide +revert

theorem Base.num_eq_six (b : Base) : b.num = 6#3 ↔ b = .bp := by cases b <;> decide

theorem Base.ofNum_eq_bp (n : BitVec 3) : Base.ofNum n = .bp ↔ n = 6#3 := by decide +revert

/-- The byte of the three fields (30_encoding R129). -/
def ModRm.byte (m : ModRm) : Byte := Encode.modrm m.mod m.reg m.rm

@[simp] theorem ModRm.ofByte_byte (m : ModRm) : ModRm.ofByte m.byte = m := by
  obtain ⟨mod, reg, rm⟩ := m
  simp only [ModRm.ofByte, ModRm.byte, Encode.modrm, ModRm.mk.injEq]
  refine ⟨?_, ?_, ?_⟩ <;> decide +revert

@[simp] theorem ModRm.byte_ofByte (b : Byte) : (ModRm.ofByte b).byte = b := by
  simp only [ModRm.ofByte, ModRm.byte, Encode.modrm]
  decide +revert

theorem Encode.append_word_bytes (w : Word) : w.extractLsb' 8 8 ++ w.extractLsb' 0 8 = w := Machine.byte_halves w

namespace Decode

/-! ## The decoder's monad -/

variable {α β γ δ : Type}

@[simp] theorem pure_eq_ok (x a : α) (bs rest : List Byte) :
    (pure x : Dec α) bs = .ok (a, rest) ↔ x = a ∧ bs = rest := by
  rw [show (pure x : Dec α) bs = .ok (x, bs) from rfl, Except.ok.injEq, Prod.mk.injEq]

theorem bind_of_ok {d : Dec α} {f : α → Dec β} {bs rest : List Byte} {a : α} (h : d bs = .ok (a, rest)) :
    (d >>= f) bs = f a rest := by
  change (d bs >>= fun p => f p.1 p.2) = _
  rw [h]
  rfl

theorem bind_of_error {d : Dec α} {f : α → Dec β} {bs : List Byte} {e : DecodeError} (h : d bs = .error e) :
    (d >>= f) bs = .error e := by
  change (d bs >>= fun p => f p.1 p.2) = _
  rw [h]
  rfl

theorem bind_eq_ok {d : Dec α} {f : α → Dec β} {bs rest : List Byte} {b : β} :
    (d >>= f) bs = .ok (b, rest) ↔ ∃ a mid, d bs = .ok (a, mid) ∧ f a mid = .ok (b, rest) := by
  cases h : d bs with
  | error e => simp [bind_of_error h]
  | ok p =>
    obtain ⟨a, mid⟩ := p
    simp [bind_of_ok h]

theorem bind_eq_error {d : Dec α} {f : α → Dec β} {bs : List Byte} {e : DecodeError} :
    (d >>= f) bs = .error e ↔ d bs = .error e ∨ ∃ a mid, d bs = .ok (a, mid) ∧ f a mid = .error e := by
  cases h : d bs with
  | error e' => simp [bind_of_error h]
  | ok p =>
    obtain ⟨a, mid⟩ := p
    simp [bind_of_ok h]

/-- `d'` reads as `d` does, whatever bytes follow: where `d` answers a part, so does `d'`, with the same bytes left and those
that follow; where `d` finds the bytes invalid, so does `d'`. -/
structure Follows (R : α → β → Prop) (d : Dec α) (d' : Dec β) : Prop where
  ok : ∀ {bs rest : List Byte} {a : α}, d bs = .ok (a, rest) →
    ∀ more, ∃ a', R a a' ∧ d' (bs ++ more) = .ok (a', rest ++ more)
  invalid : ∀ {bs : List Byte}, d bs = .error .invalid → ∀ more, d' (bs ++ more) = .error .invalid

/-- No relation between the two parts. -/
abbrev AnyTwo : α → β → Prop := fun _ _ => True

theorem follows_pure {R : α → β → Prop} {a : α} {b : β} (h : R a b) : Follows R (pure a) (pure b) where
  ok h' more := by obtain ⟨rfl, rfl⟩ := (pure_eq_ok ..).1 h'; exact ⟨b, h, rfl⟩
  invalid h' := nomatch h'

theorem follows_bad {R : α → β → Prop} : Follows R (bad : Dec α) (bad : Dec β) where
  ok h := nomatch h
  invalid _ _ := rfl

theorem Follows.bind {R : α → β → Prop} {S : γ → δ → Prop} {d : Dec α} {d' : Dec β} {f : α → Dec γ} {f' : β → Dec δ}
    (h : Follows R d d') (hf : ∀ a b, R a b → Follows S (f a) (f' b)) : Follows S (d >>= f) (d' >>= f') where
  ok hd more := by
    obtain ⟨a, mid, ha, hb⟩ := bind_eq_ok.1 hd
    obtain ⟨a', hR, ha'⟩ := h.ok ha more
    rw [bind_of_ok ha']
    exact (hf a a' hR).ok hb more
  invalid hd more := by
    rcases bind_eq_error.1 hd with he | ⟨a, mid, ha, hb⟩
    · exact bind_of_error (h.invalid he more)
    · obtain ⟨a', hR, ha'⟩ := h.ok ha more
      rw [bind_of_ok ha']
      exact (hf a a' hR).invalid hb more

theorem follows_byte : Follows Eq byte byte where
  ok {bs rest a} h more := by
    cases bs with
    | nil => cases h
    | cons _ _ => cases h; exact ⟨_, rfl, rfl⟩
  invalid {bs} h := by cases bs <;> cases h

theorem follows_word : Follows Eq word word :=
  follows_byte.bind fun _ _ hlo => follows_byte.bind fun _ _ hhi => follows_pure (by rw [hlo, hhi])

theorem follows_modrm : Follows Eq modrm modrm :=
  follows_byte.bind fun _ _ h => follows_pure (by rw [h])

theorem follows_ea (m : ModRm) : Follows Eq (ea m) (ea m) := by
  unfold ea
  split
  · split
    · exact follows_word.bind fun _ _ h => follows_pure (by rw [h])
    · exact follows_pure rfl
  · exact follows_byte.bind fun _ _ h => follows_pure (by rw [h])
  · exact follows_word.bind fun _ _ h => follows_pure (by rw [h])

theorem follows_mem (seg seg' : Option SReg) (m : ModRm) : Follows AnyTwo (mem seg m) (mem seg' m) :=
  (follows_ea m).bind fun _ _ _ => follows_pure trivial

/-! ## What each part reads -/

@[simp] theorem byte_eq_ok {bs rest : List Byte} {b : Byte} : byte bs = .ok (b, rest) ↔ bs = b :: rest := by
  cases bs <;> simp [byte]

@[simp] theorem word_eq_ok {bs rest : List Byte} {w : Word} : word bs = .ok (w, rest) ↔ bs = Encode.word w ++ rest := by
  constructor
  · intro h
    obtain ⟨lo, mid, hlo, h⟩ := bind_eq_ok.1 h
    obtain ⟨hi, mid, hhi, h⟩ := bind_eq_ok.1 h
    obtain ⟨rfl, rfl⟩ := (pure_eq_ok ..).1 h
    rw [byte_eq_ok.1 hlo, byte_eq_ok.1 hhi]
    exact congrArg₂ (· :: · :: mid) (Machine.lowByte_append hi lo).symm (Machine.highByte_append hi lo).symm
  · rintro rfl
    exact congrArg (fun v => Except.ok (v, rest)) (Encode.append_word_bytes w)

theorem modrm_byte (m : ModRm) (bs : List Byte) : modrm (m.byte :: bs) = .ok (m, bs) :=
  congrArg (fun n => Except.ok (n, bs)) m.ofByte_byte

theorem modrm_eq_ok {bs rest : List Byte} {m : ModRm} : modrm bs = .ok (m, rest) ↔ bs = m.byte :: rest := by
  constructor
  · intro h
    obtain ⟨b, mid, hb, h⟩ := bind_eq_ok.1 h
    obtain ⟨rfl, rfl⟩ := (pure_eq_ok ..).1 h
    rw [byte_eq_ok.1 hb, ModRm.byte_ofByte]
  · rintro rfl
    exact modrm_byte m rest

/-! The four forms of 30_encoding R130, by the fields that select them. -/

theorem ea_plain (reg rm : BitVec 3) (h : rm ≠ 6#3) : ea ⟨0, reg, rm⟩ = pure (.plain (Base.ofNum rm)) := if_neg h

theorem ea_direct (reg : BitVec 3) : ea ⟨0, reg, 6⟩ = word >>= fun d => pure (.direct d) := rfl

theorem ea_disp8 (reg rm : BitVec 3) : ea ⟨1, reg, rm⟩ = byte >>= fun d => pure (.disp8 (Base.ofNum rm) d) := rfl

theorem ea_disp16 (reg rm : BitVec 3) : ea ⟨2, reg, rm⟩ = word >>= fun d => pure (.disp16 (Base.ofNum rm) d) := rfl

/-- What is read after a ModRM byte is an effective address that the encoder writes as these bytes. -/
theorem ea_sound {m : ModRm} (hm : m.mod ≠ 3#2) {bs rest : List Byte} {e : Ea} (h : ea m bs = .ok (e, rest)) :
    e.wf = true ∧ m.byte :: bs = Encode.ea m.reg e ++ rest := by
  obtain ⟨mod, reg, rm⟩ := m
  obtain rfl | rfl | rfl : mod = 0#2 ∨ mod = 1#2 ∨ mod = 2#2 := by clear h; decide +revert
  · by_cases h6 : rm = 6#3
    · subst h6
      rw [show ea ⟨0#2, reg, 6#3⟩ = _ from ea_direct reg] at h
      obtain ⟨d, mid, hd, h⟩ := bind_eq_ok.1 h
      obtain ⟨rfl, rfl⟩ := (pure_eq_ok ..).1 h
      rw [word_eq_ok.1 hd]
      exact ⟨rfl, rfl⟩
    · rw [show ea ⟨0#2, reg, rm⟩ = _ from ea_plain reg rm h6] at h
      obtain ⟨rfl, rfl⟩ := (pure_eq_ok ..).1 h
      simp [Ea.wf, Base.ofNum_eq_bp, h6, Encode.ea, ModRm.byte]
  · obtain ⟨d, mid, hd, h⟩ := bind_eq_ok.1 h
    obtain ⟨rfl, rfl⟩ := (pure_eq_ok ..).1 h
    rw [byte_eq_ok.1 hd]
    simp [Ea.wf, Encode.ea, ModRm.byte]
  · obtain ⟨d, mid, hd, h⟩ := bind_eq_ok.1 h
    obtain ⟨rfl, rfl⟩ := (pure_eq_ok ..).1 h
    rw [word_eq_ok.1 hd]
    simp [Ea.wf, Encode.ea, ModRm.byte]

/-- What the encoder writes of an effective address is a ModRM byte, its `mod` not 11, and a displacement that is read
back. -/
theorem ea_encode (reg : BitVec 3) {e : Ea} (hwf : e.wf = true) :
    ∃ (m : ModRm) (disp : List Byte), m.mod ≠ 3#2 ∧ m.reg = reg ∧ Encode.ea reg e = m.byte :: disp
      ∧ ∀ rest, ea m (disp ++ rest) = .ok (e, rest) := by
  cases e with
  | plain b =>
    have h6 : b.num ≠ 6#3 := fun h => of_decide_eq_true hwf ((Base.num_eq_six b).1 h)
    exact ⟨⟨0, reg, b.num⟩, [], by simp, rfl, rfl, fun rest => by rw [ea_plain reg _ h6, Base.ofNum_num]; rfl⟩
  | disp8 b d =>
    exact ⟨⟨1, reg, b.num⟩, [d], by simp, rfl, rfl, fun rest => by rw [ea_disp8, Base.ofNum_num]; rfl⟩
  | disp16 b d =>
    refine ⟨⟨2, reg, b.num⟩, Encode.word d, by simp, rfl, rfl, fun rest => ?_⟩
    rw [ea_disp16, Base.ofNum_num, bind_of_ok (word_eq_ok.2 rfl)]
    rfl
  | direct d =>
    refine ⟨⟨0, reg, 6⟩, Encode.word d, by simp, rfl, rfl, fun rest => ?_⟩
    rw [ea_direct, bind_of_ok (word_eq_ok.2 rfl)]
    rfl

/-- A memory operand that agrees with the prefix record (30_encoding R131). -/
theorem mem_sound {c : PfxCtx} {m : ModRm} (hm : m.mod ≠ 3#2) {bs rest : List Byte} {x : Mem}
    (h : mem c.seg m bs = .ok (x, rest)) : x.wfIn c = true ∧ m.byte :: bs = Encode.mem m.reg x ++ rest := by
  obtain ⟨e, mid, he, h⟩ := bind_eq_ok.1 h
  obtain ⟨rfl, rfl⟩ := (pure_eq_ok ..).1 h
  obtain ⟨hwf, hbs⟩ := ea_sound hm he
  exact ⟨by simp [Mem.wfIn, hwf, PfxCtx.segOf], hbs⟩

theorem mem_encode {c : PfxCtx} (reg : BitVec 3) {x : Mem} (hwf : x.wfIn c = true) :
    ∃ (m : ModRm) (disp : List Byte), m.mod ≠ 3#2 ∧ m.reg = reg ∧ Encode.mem reg x = m.byte :: disp
      ∧ ∀ rest, mem c.seg m (disp ++ rest) = .ok (x, rest) := by
  obtain ⟨seg, e⟩ := x
  obtain ⟨he, hseg⟩ : e.wf = true ∧ seg = c.segOf e.defaultSeg := by simpa [Mem.wfIn] using hwf
  obtain ⟨m, disp, hm, hr, hb, hd⟩ := ea_encode reg he
  exact ⟨m, disp, hm, hr, hb, fun rest => by rw [hseg]; exact bind_of_ok (hd rest)⟩

/-! Both kinds of `r/m` operand are read in one way. -/

section
variable {ρ : Type} (ofNum : BitVec 3 → ρ)

/-- The `r/m` operand over registers numbered by `ofNum`. -/
def rmOf (seg : Option SReg) (m : ModRm) : Dec (Rm ρ) :=
  if m.mod = 3#2 then pure (.reg (ofNum m.rm)) else mem seg m >>= fun x => pure (.mem x)

theorem rmOf8_eq : rmOf8 = rmOf R8.ofNum := rfl

theorem rmOf16_eq : rmOf16 = rmOf R16.ofNum := rfl

theorem follows_rmOf (seg seg' : Option SReg) (m : ModRm) : Follows AnyTwo (rmOf ofNum seg m) (rmOf ofNum seg' m) := by
  unfold rmOf
  split
  · exact follows_pure trivial
  · exact (follows_mem seg seg' m).bind fun _ _ _ => follows_pure trivial

/-- How the encoder writes an `r/m` operand over registers numbered by `num`. -/
def encodeRm (num : ρ → BitVec 3) (reg : BitVec 3) : Rm ρ → List Byte
  | .reg r => [Encode.modrm 3 reg (num r)]
  | .mem x => Encode.mem reg x

variable {ofNum} {num : ρ → BitVec 3}

theorem rmOf_sound (hnum : ∀ n, num (ofNum n) = n) {c : PfxCtx} {m : ModRm} {bs rest : List Byte} {d : Rm ρ}
    (h : rmOf ofNum c.seg m bs = .ok (d, rest)) :
    d.mem?.all (fun x => x.wfIn c) = true ∧ m.byte :: bs = encodeRm num m.reg d ++ rest := by
  unfold rmOf at h
  split at h
  case isTrue h3 =>
    obtain ⟨rfl, rfl⟩ := (pure_eq_ok ..).1 h
    exact ⟨rfl, by simp [encodeRm, hnum, ModRm.byte, h3]⟩
  case isFalse h3 =>
    obtain ⟨x, mid, hx, h⟩ := bind_eq_ok.1 h
    obtain ⟨rfl, rfl⟩ := (pure_eq_ok ..).1 h
    exact mem_sound h3 hx

theorem rmOf_encode (hnum : ∀ r, ofNum (num r) = r) {c : PfxCtx} (reg : BitVec 3) {d : Rm ρ}
    (hwf : d.mem?.all (fun x => x.wfIn c) = true) :
    ∃ (m : ModRm) (disp : List Byte), m.reg = reg ∧ encodeRm num reg d = m.byte :: disp
      ∧ ∀ rest, rmOf ofNum c.seg m (disp ++ rest) = .ok (d, rest) := by
  cases d with
  | reg r => exact ⟨⟨3, reg, num r⟩, [], rfl, rfl, fun rest => by simp [rmOf, hnum]⟩
  | mem x =>
    obtain ⟨m, disp, hm, hr, hb, hd⟩ := mem_encode reg (show x.wfIn c = true from hwf)
    exact ⟨m, disp, hr, hb, fun rest => by rw [rmOf, if_neg hm, bind_of_ok (hd rest)]; rfl⟩

end

theorem rm8_eq : Encode.rm8 = encodeRm R8.num := by funext reg d; cases d <;> rfl

theorem rm16_eq : Encode.rm16 = encodeRm R16.num := by funext reg d; cases d <;> rfl

/-! ## The decoder's formats

A decoder of what follows an instruction's first bytes is sound when the instruction it answers agrees with the prefix
record and is encoded as those bytes and the ones read. -/

/-- A repeat prefix is in force before string opcodes only (30_encoding R125). -/
def RepAllowed (c : PfxCtx) (op : Byte) : Prop := c.rep = none ∨ isString op = true

theorem RepAllowed.rep_eq_none {c : PfxCtx} {op : Byte} (h : RepAllowed c op) (hs : isString op = false) : c.rep = none :=
  h.resolve_right (by simp [hs])

/-- `D` reads what follows the opcode `op` and the bytes `tl`. -/
structure Decodes (op : Byte) (tl : List Byte) (D : PfxCtx → Dec Instr) : Prop where
  follows : ∀ c c', Follows AnyTwo (D c) (D c')
  sound : ∀ {c : PfxCtx} {bs rest : List Byte} {i : Instr}, RepAllowed c op → D c bs = .ok (i, rest) →
    i.shape.wfIn c = true ∧ op :: tl ++ bs = i.encodeBody ++ rest

/-- An instruction of that shape, encoded as those bytes. -/
structure Form (i : Instr) (sh : Shape) (bs : List Byte) : Prop where
  shape : i.shape = sh
  bytes : i.encodeBody = bs

/-- A part of an instruction, read after the bytes `pre`: what it agrees with, and how the encoder writes it. -/
structure Part (pre : List Byte) (d : PfxCtx → Dec α) (P : PfxCtx → α → Prop) (enc : α → List Byte) : Prop where
  follows : ∀ c c', Follows AnyTwo (d c) (d c')
  sound : ∀ {c : PfxCtx} {bs rest : List Byte} {a : α}, d c bs = .ok (a, rest) → P c a ∧ pre ++ bs = enc a ++ rest

theorem Follows.mono {R S : α → β → Prop} {d : Dec α} {d' : Dec β} (h : Follows R d d') (hRS : ∀ a b, R a b → S a b) :
    Follows S d d' where
  ok hd more := by
    obtain ⟨b, hR, hb⟩ := h.ok hd more
    exact ⟨b, hRS _ _ hR, hb⟩
  invalid := h.invalid

theorem part_byte : Part [] (fun _ => byte) (fun _ _ => True) (fun b => [b]) where
  follows _ _ := follows_byte.mono fun _ _ _ => trivial
  sound h := ⟨trivial, byte_eq_ok.1 h⟩

theorem part_word : Part [] (fun _ => word) (fun _ _ => True) Encode.word where
  follows _ _ := follows_word.mono fun _ _ _ => trivial
  sound h := ⟨trivial, word_eq_ok.1 h⟩

theorem part_rmOf8 (m : ModRm) : Part [m.byte] (fun c => rmOf8 c.seg m)
    (fun c d => d.mem?.all (fun x => x.wfIn c) = true) (Encode.rm8 m.reg) where
  follows _ _ := rmOf8_eq ▸ follows_rmOf _ _ _ m
  sound h := rm8_eq ▸ rmOf_sound R8.num_ofNum (rmOf8_eq ▸ h)

theorem part_rmOf16 (m : ModRm) : Part [m.byte] (fun c => rmOf16 c.seg m)
    (fun c d => d.mem?.all (fun x => x.wfIn c) = true) (Encode.rm16 m.reg) where
  follows _ _ := rmOf16_eq ▸ follows_rmOf _ _ _ m
  sound h := rm16_eq ▸ rmOf_sound R16.num_ofNum (rmOf16_eq ▸ h)

theorem part_mem {m : ModRm} (h : m.mod ≠ 3#2) : Part [m.byte] (fun c => mem c.seg m) (fun c x => x.wfIn c = true)
    (Encode.mem m.reg) where
  follows _ _ := follows_mem _ _ m
  sound h' := mem_sound h h'

section
variable {op : Byte} {tl : List Byte} {m : ModRm}

theorem decodes_bad : Decodes op tl (fun _ => bad) where
  follows _ _ := follows_bad
  sound _ h := nomatch h

theorem decodes_pure {f : PfxCtx → Instr} (hwf : ∀ c, RepAllowed c op → (f c).shape.wfIn c = true)
    (hb : ∀ c, (f c).encodeBody = op :: tl) : Decodes op tl (fun c => pure (f c)) where
  follows _ _ := follows_pure trivial
  sound {c bs rest i} hr h := by
    obtain ⟨rfl, rfl⟩ := (pure_eq_ok ..).1 h
    exact ⟨hwf c hr, by rw [hb]⟩

theorem decodes_map {d : PfxCtx → Dec α} {P : PfxCtx → α → Prop} {enc : α → List Byte}
    {f : PfxCtx → α → Instr} (hd : Part tl d P enc)
    (hwf : ∀ c a, RepAllowed c op → P c a → (f c a).shape.wfIn c = true)
    (hb : ∀ c a, (f c a).encodeBody = op :: enc a) : Decodes op tl (fun c => d c >>= fun a => pure (f c a)) where
  follows c c' := (hd.follows c c').bind fun _ _ _ => follows_pure trivial
  sound {c bs rest i} hr h := by
    obtain ⟨a, mid, ha, h⟩ := bind_eq_ok.1 h
    obtain ⟨rfl, rfl⟩ := (pure_eq_ok ..).1 h
    obtain ⟨hP, hbs⟩ := hd.sound ha
    exact ⟨hwf c a hr hP, by rw [hb, List.cons_append, hbs, List.cons_append]⟩

theorem decodes_map₂ {d : PfxCtx → Dec α} {e : PfxCtx → Dec β} {P : PfxCtx → α → Prop} {Q : PfxCtx → β → Prop}
    {enc : α → List Byte} {enc' : β → List Byte} {f : α → β → Instr} (hd : Part tl d P enc) (he : Part [] e Q enc')
    (hwf : ∀ c a b, RepAllowed c op → P c a → (f a b).shape.wfIn c = true)
    (hb : ∀ a b, (f a b).encodeBody = op :: enc a ++ enc' b) :
    Decodes op tl (fun c => d c >>= fun a => e c >>= fun b => pure (f a b)) where
  follows c c' := (hd.follows c c').bind fun _ _ _ => (he.follows c c').bind fun _ _ _ => follows_pure trivial
  sound {c bs rest i} hr h := by
    obtain ⟨a, mid, ha, h⟩ := bind_eq_ok.1 h
    obtain ⟨b, mid', hb', h⟩ := bind_eq_ok.1 h
    obtain ⟨rfl, rfl⟩ := (pure_eq_ok ..).1 h
    obtain ⟨hP, hbs⟩ := hd.sound ha
    obtain ⟨-, rfl⟩ := he.sound hb'
    exact ⟨hwf c a b hr hP, by simp [hb, hbs]⟩

theorem wfIn_bare {c : PfxCtx} {n : Nat} (h : c.rep = none) : Shape.wfIn c (.bare n) = true := decide_eq_true h

theorem wfIn_modrm {c : PfxCtx} {x : Option Mem} {n : Nat} (h : c.rep = none) (hx : x.all (fun x => x.wfIn c) = true) :
    Shape.wfIn c (.modrm x n) = true := by
  rw [Shape.wfIn, hx, h]
  rfl

variable (hs : isString op = false)
include hs

/-! A format with no ModRM byte. -/

theorem decodes_none {i : Instr} (h : Form i (.bare 0) [op]) : Decodes op [] (fun _ => pure i) :=
  decodes_pure (fun _ hr => h.shape ▸ wfIn_bare (hr.rep_eq_none hs)) fun _ => h.bytes

theorem decodes_imm8 {f : Byte → Instr} (h : ∀ v, Form (f v) (.bare 1) [op, v]) : Decodes op [] (fun _ => imm8 f) :=
  decodes_map part_byte (fun _ v hr _ => (h v).shape ▸ wfIn_bare (hr.rep_eq_none hs)) fun _ v => (h v).bytes

theorem decodes_imm16 {f : Word → Instr} (h : ∀ v, Form (f v) (.bare 2) (op :: Encode.word v)) :
    Decodes op [] (fun _ => imm16 f) :=
  decodes_map part_word (fun _ v hr _ => (h v).shape ▸ wfIn_bare (hr.rep_eq_none hs)) fun _ v => (h v).bytes

theorem decodes_imm16Imm8 {f : Word → Byte → Instr} (h : ∀ w b, Form (f w b) (.bare 3) (op :: Encode.word w ++ [b])) :
    Decodes op [] (fun _ => imm16Imm8 f) :=
  decodes_map₂ part_word part_byte (fun _ w b hr _ => (h w b).shape ▸ wfIn_bare (hr.rep_eq_none hs)) fun w b => (h w b).bytes

theorem decodes_far {f : Word → Word → Instr} (h : ∀ v w, Form (f v w) (.bare 4) (op :: Encode.word v ++ Encode.word w)) :
    Decodes op [] (fun _ => far f) :=
  decodes_map₂ part_word part_word (fun _ v w hr _ => (h v w).shape ▸ wfIn_bare (hr.rep_eq_none hs)) fun v w => (h v w).bytes

theorem decodes_moffs {f : SReg → Word → Instr} (h : ∀ g v, Form (f g v) (.implied g 2) (op :: Encode.word v)) :
    Decodes op [] (fun c => moffs c.seg f) :=
  decodes_map part_word
    (fun c v hr _ => (h _ v).shape ▸ by simp [Shape.wfIn, hr.rep_eq_none hs, PfxCtx.segOf]) fun _ v => (h _ v).bytes

theorem decodes_implied {f : SReg → Instr} (h : ∀ g, Form (f g) (.implied g 0) [op]) :
    Decodes op [] (fun c => pure (f (c.seg.getD .ds))) :=
  decodes_pure (fun c hr => (h _).shape ▸ by simp [Shape.wfIn, hr.rep_eq_none hs, PfxCtx.segOf]) fun _ => (h _).bytes

omit hs

/-- A string instruction takes the repeat kind in force, whatever it is. -/
theorem decodes_string {f : SReg → Option Rep → Instr} (h : ∀ g r, Form (f g r) (.string (some g) r) [op]) :
    Decodes op [] (fun c => pure (f (c.seg.getD .ds) c.rep)) :=
  decodes_pure (fun c _ => (h _ _).shape ▸ by simp [Shape.wfIn, PfxCtx.segOf]) fun _ => (h _ _).bytes

theorem decodes_stringTo {f : Option Rep → Instr} (h : ∀ r, Form (f r) (.string none r) [op]) :
    Decodes op [] (fun c => pure (f c.rep)) :=
  decodes_pure (fun c _ => (h _).shape ▸ by simp [Shape.wfIn]) fun _ => (h _).bytes

include hs

/-! What follows a ModRM byte. -/

theorem decodes_register {i : Instr} (h : Form i (.modrm none 0) [op, m.byte]) : Decodes op [m.byte] (fun _ => pure i) :=
  decodes_pure (fun _ hr => h.shape ▸ wfIn_modrm (hr.rep_eq_none hs) rfl) fun _ => h.bytes

theorem decodes_m8 {f : Rm8 → Instr} (h : ∀ d, Form (f d) (.modrm d.mem? 0) (op :: Encode.rm8 m.reg d)) :
    Decodes op [m.byte] (fun c => m8 c.seg m f) :=
  decodes_map (part_rmOf8 m) (fun _ d hr hd => (h d).shape ▸ wfIn_modrm (hr.rep_eq_none hs) hd) fun _ d => (h d).bytes

theorem decodes_m16 {f : Rm16 → Instr} (h : ∀ d, Form (f d) (.modrm d.mem? 0) (op :: Encode.rm16 m.reg d)) :
    Decodes op [m.byte] (fun c => m16 c.seg m f) :=
  decodes_map (part_rmOf16 m) (fun _ d hr hd => (h d).shape ▸ wfIn_modrm (hr.rep_eq_none hs) hd) fun _ d => (h d).bytes

theorem decodes_m8Imm8 {f : Rm8 → Byte → Instr}
    (h : ∀ d v, Form (f d v) (.modrm d.mem? 1) (op :: Encode.rm8 m.reg d ++ [v])) :
    Decodes op [m.byte] (fun c => m8Imm8 c.seg m f) :=
  decodes_map₂ (part_rmOf8 m) part_byte (fun _ d v hr hd => (h d v).shape ▸ wfIn_modrm (hr.rep_eq_none hs) hd)
    fun d v => (h d v).bytes

theorem decodes_m16Imm8 {f : Rm16 → Byte → Instr}
    (h : ∀ d v, Form (f d v) (.modrm d.mem? 1) (op :: Encode.rm16 m.reg d ++ [v])) :
    Decodes op [m.byte] (fun c => m16Imm8 c.seg m f) :=
  decodes_map₂ (part_rmOf16 m) part_byte (fun _ d v hr hd => (h d v).shape ▸ wfIn_modrm (hr.rep_eq_none hs) hd)
    fun d v => (h d v).bytes

theorem decodes_m16Imm16 {f : Rm16 → Word → Instr}
    (h : ∀ d v, Form (f d v) (.modrm d.mem? 2) (op :: Encode.rm16 m.reg d ++ Encode.word v)) :
    Decodes op [m.byte] (fun c => m16Imm16 c.seg m f) :=
  decodes_map₂ (part_rmOf16 m) part_word (fun _ d v hr hd => (h d v).shape ▸ wfIn_modrm (hr.rep_eq_none hs) hd)
    fun d v => (h d v).bytes

theorem decodes_memOnly {f : Mem → Instr} (h : ∀ x, Form (f x) (.modrm (some x) 0) (op :: Encode.mem m.reg x)) :
    Decodes op [m.byte] (fun c => memOnly c.seg m f) := by
  by_cases h3 : m.mod = 3#2
  · simp only [memOnly, if_pos h3]
    exact decodes_bad
  · simp only [memOnly, if_neg h3]
    exact decodes_map (part_mem h3) (fun _ x hr hx => (h x).shape ▸ wfIn_modrm (hr.rep_eq_none hs) hx) fun _ x => (h x).bytes

end

section
variable {op : Byte}

theorem decodes_modrm {D : PfxCtx → ModRm → Dec Instr} (h : ∀ m : ModRm, Decodes op [m.byte] (fun c => D c m)) :
    Decodes op [] (fun c => modrm >>= D c) where
  follows c c' := follows_modrm.bind fun m m' hm => hm ▸ (h m).follows c c'
  sound {c bs rest i} hr hd := by
    obtain ⟨m, mid, hm, hd⟩ := bind_eq_ok.1 hd
    rw [modrm_eq_ok.1 hm]
    exact (h m).sound hr hd

theorem decodes_ite {tl : List Byte} {p : Prop} [Decidable p] {D E : PfxCtx → Dec Instr} (hD : p → Decodes op tl D)
    (hE : ¬p → Decodes op tl E) : Decodes op tl (fun c => if p then D c else E c) := by
  by_cases h : p
  · simp only [if_pos h]
    exact hD h
  · simp only [if_neg h]
    exact hE h

variable (hs : isString op = false)
include hs

/-! A ModRM byte whose `reg` field is a register. -/

theorem decodes_mr8 {f : Rm8 → R8 → Instr} (h : ∀ d r, Form (f d r) (.modrm d.mem? 0) (op :: Encode.rm8 r.num d)) :
    Decodes op [] (fun c => mr8 c.seg f) :=
  decodes_modrm fun m => decodes_m8 hs fun d => by simpa using h d (R8.ofNum m.reg)

theorem decodes_mr16 {f : Rm16 → R16 → Instr} (h : ∀ d r, Form (f d r) (.modrm d.mem? 0) (op :: Encode.rm16 r.num d)) :
    Decodes op [] (fun c => mr16 c.seg f) :=
  decodes_modrm fun m => decodes_m16 hs fun d => by simpa using h d (R16.ofNum m.reg)

theorem decodes_rm8 {f : R8 → Rm8 → Instr} (h : ∀ r d, Form (f r d) (.modrm d.mem? 0) (op :: Encode.rm8 r.num d)) :
    Decodes op [] (fun c => rm8 c.seg f) :=
  decodes_modrm fun m => decodes_m8 hs fun d => by simpa using h (R8.ofNum m.reg) d

theorem decodes_rm16 {f : R16 → Rm16 → Instr} (h : ∀ r d, Form (f r d) (.modrm d.mem? 0) (op :: Encode.rm16 r.num d)) :
    Decodes op [] (fun c => rm16 c.seg f) :=
  decodes_modrm fun m => decodes_m16 hs fun d => by simpa using h (R16.ofNum m.reg) d

theorem decodes_rmMem {f : R16 → Mem → Instr} (h : ∀ r x, Form (f r x) (.modrm (some x) 0) (op :: Encode.mem r.num x)) :
    Decodes op [] (fun c => rmMem c.seg f) :=
  decodes_modrm fun m => decodes_memOnly hs fun x => by simpa using h (R16.ofNum m.reg) x

theorem decodes_rmImm8 {f : R16 → Rm16 → Byte → Instr}
    (h : ∀ r d v, Form (f r d v) (.modrm d.mem? 1) (op :: Encode.rm16 r.num d ++ [v])) :
    Decodes op [] (fun c => rmImm8 c.seg f) :=
  decodes_modrm fun m => decodes_m16Imm8 hs fun d v => by simpa using h (R16.ofNum m.reg) d v

theorem decodes_rmImm16 {f : R16 → Rm16 → Word → Instr}
    (h : ∀ r d v, Form (f r d v) (.modrm d.mem? 2) (op :: Encode.rm16 r.num d ++ Encode.word v)) :
    Decodes op [] (fun c => rmImm16 c.seg f) :=
  decodes_modrm fun m => decodes_m16Imm16 hs fun d v => by simpa using h (R16.ofNum m.reg) d v

end

/-! ## The opcode groups (30_encoding R134, R138, R139) -/

/-- A field of three bits, by its value. -/
theorem octal_cases {P : BitVec 3 → Prop} (d0 : P 0) (d1 : P 1) (d2 : P 2) (d3 : P 3) (d4 : P 4) (d5 : P 5) (d6 : P 6)
    (d7 : P 7) (r : BitVec 3) : P r := by
  obtain rfl | rfl | rfl | rfl | rfl | rfl | rfl | rfl :
      r = 0 ∨ r = 1 ∨ r = 2 ∨ r = 3 ∨ r = 4 ∨ r = 5 ∨ r = 6 ∨ r = 7 := by decide +revert
  all_goals assumption

/-- A half of a byte, by its value. -/
theorem nibble_cases {P : BitVec 4 → Prop} (x0 : P 0) (x1 : P 1) (x2 : P 2) (x3 : P 3) (x4 : P 4) (x5 : P 5) (x6 : P 6)
    (x7 : P 7) (x8 : P 8) (x9 : P 9) (xA : P 10) (xB : P 11) (xC : P 12) (xD : P 13) (xE : P 14) (xF : P 15)
    (n : BitVec 4) : P n := by
  obtain rfl | rfl | rfl | rfl | rfl | rfl | rfl | rfl | rfl | rfl | rfl | rfl | rfl | rfl | rfl | rfl :
      n = 0 ∨ n = 1 ∨ n = 2 ∨ n = 3 ∨ n = 4 ∨ n = 5 ∨ n = 6 ∨ n = 7 ∨ n = 8 ∨ n = 9 ∨ n = 10 ∨ n = 11 ∨ n = 12 ∨ n = 13
        ∨ n = 14 ∨ n = 15 := by decide +revert
  all_goals assumption

theorem decodes_st {op : Byte} (hs : isString op = false) {i : Instr} {reg rm : BitVec 3}
    (h : Form i (.modrm none 0) [op, Encode.st (3#2 ++ reg) rm]) :
    Decodes op [ModRm.byte ⟨3#2, reg, rm⟩] (fun _ => pure i) :=
  decodes_register (m := ⟨3#2, reg, rm⟩) hs ⟨h.shape, h.bytes⟩

theorem decodes_op80 : Decodes 0x80 [] (fun c => op80 c.seg) := decodes_modrm fun m => by
  obtain ⟨mod, reg, rm⟩ := m
  cases reg using octal_cases with
  | d0 | d1 | d2 | d3 | d4 | d5 | d6 | d7 => exact decodes_m8Imm8 rfl fun _ _ => ⟨rfl, rfl⟩

theorem decodes_op81 : Decodes 0x81 [] (fun c => op81 c.seg) := decodes_modrm fun m => by
  obtain ⟨mod, reg, rm⟩ := m
  cases reg using octal_cases with
  | d0 | d1 | d2 | d3 | d4 | d5 | d6 | d7 => exact decodes_m16Imm16 rfl fun _ _ => ⟨rfl, rfl⟩

theorem decodes_op83 : Decodes 0x83 [] (fun c => op83 c.seg) := decodes_modrm fun m => by
  obtain ⟨mod, reg, rm⟩ := m
  cases reg using octal_cases with
  | d0 | d1 | d2 | d3 | d4 | d5 | d6 | d7 => exact decodes_m16Imm8 rfl fun _ _ => ⟨rfl, rfl⟩

theorem decodes_op8C : Decodes 0x8C [] (fun c => op8C c.seg) := decodes_modrm fun m => by
  obtain ⟨mod, reg, rm⟩ := m
  cases reg using octal_cases with
  | d0 | d1 | d2 | d3 => exact decodes_m16 rfl fun _ => ⟨rfl, rfl⟩
  | d4 | d5 | d6 | d7 => exact decodes_bad

theorem decodes_op8E : Decodes 0x8E [] (fun c => op8E c.seg) := decodes_modrm fun m => by
  obtain ⟨mod, reg, rm⟩ := m
  cases reg using octal_cases with
  | d0 | d2 | d3 => exact decodes_m16 rfl fun _ => ⟨rfl, rfl⟩
  | d1 | d4 | d5 | d6 | d7 => exact decodes_bad

theorem decodes_op8F : Decodes 0x8F [] (fun c => op8F c.seg) := decodes_modrm fun m => by
  obtain ⟨mod, reg, rm⟩ := m
  cases reg using octal_cases with
  | d0 => exact decodes_m16 rfl fun _ => ⟨rfl, rfl⟩
  | d1 | d2 | d3 | d4 | d5 | d6 | d7 => exact decodes_bad

theorem decodes_opC0 : Decodes 0xC0 [] (fun c => opC0 c.seg) := decodes_modrm fun m => by
  obtain ⟨mod, reg, rm⟩ := m
  cases reg using octal_cases with
  | d0 | d1 | d2 | d3 | d4 | d5 | d7 => exact decodes_m8Imm8 rfl fun _ _ => ⟨rfl, rfl⟩
  | d6 => exact decodes_bad

theorem decodes_opC1 : Decodes 0xC1 [] (fun c => opC1 c.seg) := decodes_modrm fun m => by
  obtain ⟨mod, reg, rm⟩ := m
  cases reg using octal_cases with
  | d0 | d1 | d2 | d3 | d4 | d5 | d7 => exact decodes_m16Imm8 rfl fun _ _ => ⟨rfl, rfl⟩
  | d6 => exact decodes_bad

theorem decodes_opC6 : Decodes 0xC6 [] (fun c => opC6 c.seg) := decodes_modrm fun m => by
  obtain ⟨mod, reg, rm⟩ := m
  cases reg using octal_cases with
  | d0 => exact decodes_m8Imm8 rfl fun _ _ => ⟨rfl, rfl⟩
  | d1 | d2 | d3 | d4 | d5 | d6 | d7 => exact decodes_bad

theorem decodes_opC7 : Decodes 0xC7 [] (fun c => opC7 c.seg) := decodes_modrm fun m => by
  obtain ⟨mod, reg, rm⟩ := m
  cases reg using octal_cases with
  | d0 => exact decodes_m16Imm16 rfl fun _ _ => ⟨rfl, rfl⟩
  | d1 | d2 | d3 | d4 | d5 | d6 | d7 => exact decodes_bad

theorem decodes_opD0 : Decodes 0xD0 [] (fun c => opD0 c.seg) := decodes_modrm fun m => by
  obtain ⟨mod, reg, rm⟩ := m
  cases reg using octal_cases with
  | d0 | d1 | d2 | d3 | d4 | d5 | d7 => exact decodes_m8 rfl fun _ => ⟨rfl, rfl⟩
  | d6 => exact decodes_bad

theorem decodes_opD1 : Decodes 0xD1 [] (fun c => opD1 c.seg) := decodes_modrm fun m => by
  obtain ⟨mod, reg, rm⟩ := m
  cases reg using octal_cases with
  | d0 | d1 | d2 | d3 | d4 | d5 | d7 => exact decodes_m16 rfl fun _ => ⟨rfl, rfl⟩
  | d6 => exact decodes_bad

theorem decodes_opD2 : Decodes 0xD2 [] (fun c => opD2 c.seg) := decodes_modrm fun m => by
  obtain ⟨mod, reg, rm⟩ := m
  cases reg using octal_cases with
  | d0 | d1 | d2 | d3 | d4 | d5 | d7 => exact decodes_m8 rfl fun _ => ⟨rfl, rfl⟩
  | d6 => exact decodes_bad

theorem decodes_opD3 : Decodes 0xD3 [] (fun c => opD3 c.seg) := decodes_modrm fun m => by
  obtain ⟨mod, reg, rm⟩ := m
  cases reg using octal_cases with
  | d0 | d1 | d2 | d3 | d4 | d5 | d7 => exact decodes_m16 rfl fun _ => ⟨rfl, rfl⟩
  | d6 => exact decodes_bad

theorem decodes_opD8 : Decodes 0xD8 [] (fun c => opD8 c.seg) := decodes_modrm fun m => by
  obtain ⟨mod, reg, rm⟩ := m
  refine decodes_ite (fun h3 => ?_) (fun _ => ?_)
  · subst h3
    cases reg using octal_cases with
    | d0 | d1 | d2 | d3 | d4 | d5 | d6 | d7 => exact decodes_st rfl ⟨rfl, rfl⟩
  · cases reg using octal_cases with
    | d0 | d1 | d2 | d3 | d4 | d5 | d6 | d7 => exact decodes_memOnly rfl fun _ => ⟨rfl, rfl⟩

theorem decodes_opD9 : Decodes 0xD9 [] (fun c => opD9 c.seg) := decodes_modrm fun m => by
  obtain ⟨mod, reg, rm⟩ := m
  refine decodes_ite (fun h3 => ?_) (fun _ => ?_)
  · subst h3
    cases reg using octal_cases with
    | d0 | d1 => exact decodes_st rfl ⟨rfl, rfl⟩
    | d2 =>
      cases rm using octal_cases with
      | d0 => exact decodes_register rfl ⟨rfl, rfl⟩
      | d1 | d2 | d3 | d4 | d5 | d6 | d7 => exact decodes_bad
    | d4 =>
      cases rm using octal_cases with
      | d0 | d1 | d4 | d5 => exact decodes_register rfl ⟨rfl, rfl⟩
      | d2 | d3 | d6 | d7 => exact decodes_bad
    | d5 =>
      cases rm using octal_cases with
      | d0 | d1 | d2 | d3 | d4 | d5 | d6 => exact decodes_register rfl ⟨rfl, rfl⟩
      | d7 => exact decodes_bad
    | d6 =>
      cases rm using octal_cases with
      | d6 | d7 => exact decodes_register rfl ⟨rfl, rfl⟩
      | d0 | d1 | d2 | d3 | d4 | d5 => exact decodes_bad
    | d7 =>
      cases rm using octal_cases with
      | d2 | d4 => exact decodes_register rfl ⟨rfl, rfl⟩
      | d0 | d1 | d3 | d5 | d6 | d7 => exact decodes_bad
    | d3 => exact decodes_bad
  · cases reg using octal_cases with
    | d0 | d2 | d3 | d5 | d7 => exact decodes_memOnly rfl fun _ => ⟨rfl, rfl⟩
    | d1 | d4 | d6 => exact decodes_bad

theorem decodes_opDA : Decodes 0xDA [] (fun c => opDA c.seg) := decodes_modrm fun m => by
  obtain ⟨mod, reg, rm⟩ := m
  refine decodes_ite (fun _ => decodes_bad) (fun _ => ?_)
  cases reg using octal_cases with
  | d0 | d1 | d2 | d3 | d4 | d5 | d6 | d7 => exact decodes_memOnly rfl fun _ => ⟨rfl, rfl⟩

theorem decodes_opDB : Decodes 0xDB [] (fun c => opDB c.seg) := decodes_modrm fun m => by
  obtain ⟨mod, reg, rm⟩ := m
  refine decodes_ite (fun h3 => ?_) (fun _ => ?_)
  · subst h3
    cases reg using octal_cases with
    | d4 =>
      cases rm using octal_cases with
      | d2 | d3 => exact decodes_register rfl ⟨rfl, rfl⟩
      | d0 | d1 | d4 | d5 | d6 | d7 => exact decodes_bad
    | d0 | d1 | d2 | d3 | d5 | d6 | d7 => exact decodes_bad
  · cases reg using octal_cases with
    | d0 | d2 | d3 | d5 | d7 => exact decodes_memOnly rfl fun _ => ⟨rfl, rfl⟩
    | d1 | d4 | d6 => exact decodes_bad

theorem decodes_opDC : Decodes 0xDC [] (fun c => opDC c.seg) := decodes_modrm fun m => by
  obtain ⟨mod, reg, rm⟩ := m
  refine decodes_ite (fun h3 => ?_) (fun _ => ?_)
  · subst h3
    cases reg using octal_cases with
    | d0 | d1 | d4 | d5 | d6 | d7 => exact decodes_st rfl ⟨rfl, rfl⟩
    | d2 | d3 => exact decodes_bad
  · cases reg using octal_cases with
    | d0 | d1 | d2 | d3 | d4 | d5 | d6 | d7 => exact decodes_memOnly rfl fun _ => ⟨rfl, rfl⟩

theorem decodes_opDD : Decodes 0xDD [] (fun c => opDD c.seg) := decodes_modrm fun m => by
  obtain ⟨mod, reg, rm⟩ := m
  refine decodes_ite (fun h3 => ?_) (fun _ => ?_)
  · subst h3
    cases reg using octal_cases with
    | d0 | d2 | d3 => exact decodes_st rfl ⟨rfl, rfl⟩
    | d1 | d4 | d5 | d6 | d7 => exact decodes_bad
  · cases reg using octal_cases with
    | d0 | d2 | d3 | d7 => exact decodes_memOnly rfl fun _ => ⟨rfl, rfl⟩
    | d1 | d4 | d5 | d6 => exact decodes_bad

theorem decodes_opDE : Decodes 0xDE [] (fun c => opDE c.seg) := decodes_modrm fun m => by
  obtain ⟨mod, reg, rm⟩ := m
  refine decodes_ite (fun h3 => ?_) (fun _ => ?_)
  · subst h3
    cases reg using octal_cases with
    | d0 | d1 | d4 | d5 | d6 | d7 => exact decodes_st rfl ⟨rfl, rfl⟩
    | d3 =>
      cases rm using octal_cases with
      | d1 => exact decodes_register rfl ⟨rfl, rfl⟩
      | d0 | d2 | d3 | d4 | d5 | d6 | d7 => exact decodes_bad
    | d2 => exact decodes_bad
  · cases reg using octal_cases with
    | d0 | d1 | d2 | d3 | d4 | d5 | d6 | d7 => exact decodes_memOnly rfl fun _ => ⟨rfl, rfl⟩

theorem decodes_opDF : Decodes 0xDF [] (fun c => opDF c.seg) := decodes_modrm fun m => by
  obtain ⟨mod, reg, rm⟩ := m
  refine decodes_ite (fun h3 => ?_) (fun _ => ?_)
  · subst h3
    cases reg using octal_cases with
    | d4 =>
      cases rm using octal_cases with
      | d0 => exact decodes_register rfl ⟨rfl, rfl⟩
      | d1 | d2 | d3 | d4 | d5 | d6 | d7 => exact decodes_bad
    | d0 | d1 | d2 | d3 | d5 | d6 | d7 => exact decodes_bad
  · cases reg using octal_cases with
    | d0 | d2 | d3 | d5 | d7 => exact decodes_memOnly rfl fun _ => ⟨rfl, rfl⟩
    | d1 | d4 | d6 => exact decodes_bad

theorem decodes_opF6 : Decodes 0xF6 [] (fun c => opF6 c.seg) := decodes_modrm fun m => by
  obtain ⟨mod, reg, rm⟩ := m
  cases reg using octal_cases with
  | d0 => exact decodes_m8Imm8 rfl fun _ _ => ⟨rfl, rfl⟩
  | d2 | d3 | d4 | d5 | d6 | d7 => exact decodes_m8 rfl fun _ => ⟨rfl, rfl⟩
  | d1 => exact decodes_bad

theorem decodes_opF7 : Decodes 0xF7 [] (fun c => opF7 c.seg) := decodes_modrm fun m => by
  obtain ⟨mod, reg, rm⟩ := m
  cases reg using octal_cases with
  | d0 => exact decodes_m16Imm16 rfl fun _ _ => ⟨rfl, rfl⟩
  | d2 | d3 | d4 | d5 | d6 | d7 => exact decodes_m16 rfl fun _ => ⟨rfl, rfl⟩
  | d1 => exact decodes_bad

theorem decodes_opFE : Decodes 0xFE [] (fun c => opFE c.seg) := decodes_modrm fun m => by
  obtain ⟨mod, reg, rm⟩ := m
  cases reg using octal_cases with
  | d0 | d1 => exact decodes_m8 rfl fun _ => ⟨rfl, rfl⟩
  | d2 | d3 | d4 | d5 | d6 | d7 => exact decodes_bad

theorem decodes_opFF : Decodes 0xFF [] (fun c => opFF c.seg) := decodes_modrm fun m => by
  obtain ⟨mod, reg, rm⟩ := m
  cases reg using octal_cases with
  | d0 | d1 | d2 | d4 | d6 => exact decodes_m16 rfl fun _ => ⟨rfl, rfl⟩
  | d3 | d5 => exact decodes_memOnly rfl fun _ => ⟨rfl, rfl⟩
  | d7 => exact decodes_bad

/-! ## The opcode map, row by row (30_encoding R137) -/

theorem decodes_row0 (lo : BitVec 4) : Decodes (BitVec.ofNat 8 (0x00 + lo.toNat)) [] (fun c => row0 c lo.toNat) := by
  cases lo using nibble_cases with
  | x0 | x8 => exact decodes_mr8 rfl fun _ _ => ⟨rfl, rfl⟩
  | x1 | x9 => exact decodes_mr16 rfl fun _ _ => ⟨rfl, rfl⟩
  | x2 | xA => exact decodes_rm8 rfl fun _ _ => ⟨rfl, rfl⟩
  | x3 | xB => exact decodes_rm16 rfl fun _ _ => ⟨rfl, rfl⟩
  | x4 | xC => exact decodes_imm8 rfl fun _ => ⟨rfl, rfl⟩
  | x5 | xD => exact decodes_imm16 rfl fun _ => ⟨rfl, rfl⟩
  | x6 | x7 | xE => exact decodes_none rfl ⟨rfl, rfl⟩
  | xF => exact decodes_bad

theorem decodes_row1 (lo : BitVec 4) : Decodes (BitVec.ofNat 8 (0x10 + lo.toNat)) [] (fun c => row1 c lo.toNat) := by
  cases lo using nibble_cases with
  | x0 | x8 => exact decodes_mr8 rfl fun _ _ => ⟨rfl, rfl⟩
  | x1 | x9 => exact decodes_mr16 rfl fun _ _ => ⟨rfl, rfl⟩
  | x2 | xA => exact decodes_rm8 rfl fun _ _ => ⟨rfl, rfl⟩
  | x3 | xB => exact decodes_rm16 rfl fun _ _ => ⟨rfl, rfl⟩
  | x4 | xC => exact decodes_imm8 rfl fun _ => ⟨rfl, rfl⟩
  | x5 | xD => exact decodes_imm16 rfl fun _ => ⟨rfl, rfl⟩
  | x6 | x7 | xE | xF => exact decodes_none rfl ⟨rfl, rfl⟩

theorem decodes_row2 (lo : BitVec 4) : Decodes (BitVec.ofNat 8 (0x20 + lo.toNat)) [] (fun c => row2 c lo.toNat) := by
  cases lo using nibble_cases with
  | x0 | x8 => exact decodes_mr8 rfl fun _ _ => ⟨rfl, rfl⟩
  | x1 | x9 => exact decodes_mr16 rfl fun _ _ => ⟨rfl, rfl⟩
  | x2 | xA => exact decodes_rm8 rfl fun _ _ => ⟨rfl, rfl⟩
  | x3 | xB => exact decodes_rm16 rfl fun _ _ => ⟨rfl, rfl⟩
  | x4 | xC => exact decodes_imm8 rfl fun _ => ⟨rfl, rfl⟩
  | x5 | xD => exact decodes_imm16 rfl fun _ => ⟨rfl, rfl⟩
  | x6 | x7 | xE | xF => exact decodes_bad

theorem decodes_row3 (lo : BitVec 4) : Decodes (BitVec.ofNat 8 (0x30 + lo.toNat)) [] (fun c => row3 c lo.toNat) := by
  cases lo using nibble_cases with
  | x0 | x8 => exact decodes_mr8 rfl fun _ _ => ⟨rfl, rfl⟩
  | x1 | x9 => exact decodes_mr16 rfl fun _ _ => ⟨rfl, rfl⟩
  | x2 | xA => exact decodes_rm8 rfl fun _ _ => ⟨rfl, rfl⟩
  | x3 | xB => exact decodes_rm16 rfl fun _ _ => ⟨rfl, rfl⟩
  | x4 | xC => exact decodes_imm8 rfl fun _ => ⟨rfl, rfl⟩
  | x5 | xD => exact decodes_imm16 rfl fun _ => ⟨rfl, rfl⟩
  | x6 | x7 | xE | xF => exact decodes_bad

theorem decodes_row4 (lo : BitVec 4) : Decodes (BitVec.ofNat 8 (0x40 + lo.toNat)) [] (fun c => row4 c lo.toNat) := by
  cases lo using nibble_cases with
  | x0 | x1 | x2 | x3 | x4 | x5 | x6 | x7 | x8 | x9 | xA | xB | xC | xD | xE | xF => exact decodes_none rfl ⟨rfl, rfl⟩

theorem decodes_row5 (lo : BitVec 4) : Decodes (BitVec.ofNat 8 (0x50 + lo.toNat)) [] (fun c => row5 c lo.toNat) := by
  cases lo using nibble_cases with
  | x0 | x1 | x2 | x3 | x4 | x5 | x6 | x7 | x8 | x9 | xA | xB | xC | xD | xE | xF => exact decodes_none rfl ⟨rfl, rfl⟩

theorem decodes_row6 (lo : BitVec 4) : Decodes (BitVec.ofNat 8 (0x60 + lo.toNat)) [] (fun c => row6 c lo.toNat) := by
  cases lo using nibble_cases with
  | x0 | x1 => exact decodes_none rfl ⟨rfl, rfl⟩
  | x2 => exact decodes_rmMem rfl fun _ _ => ⟨rfl, rfl⟩
  | x8 => exact decodes_imm16 rfl fun _ => ⟨rfl, rfl⟩
  | x9 => exact decodes_rmImm16 rfl fun _ _ _ => ⟨rfl, rfl⟩
  | xA => exact decodes_imm8 rfl fun _ => ⟨rfl, rfl⟩
  | xB => exact decodes_rmImm8 rfl fun _ _ _ => ⟨rfl, rfl⟩
  | x3 | x4 | x5 | x6 | x7 | xC | xD | xE | xF => exact decodes_bad

theorem decodes_row7 (lo : BitVec 4) : Decodes (BitVec.ofNat 8 (0x70 + lo.toNat)) [] (fun c => row7 c lo.toNat) := by
  cases lo using nibble_cases with
  | x0 | x1 | x2 | x3 | x4 | x5 | x6 | x7 | x8 | x9 | xA | xB | xC | xD | xE | xF =>
    exact decodes_imm8 rfl fun _ => ⟨rfl, rfl⟩

theorem decodes_row8 (lo : BitVec 4) : Decodes (BitVec.ofNat 8 (0x80 + lo.toNat)) [] (fun c => row8 c lo.toNat) := by
  cases lo using nibble_cases with
  | x0 => exact decodes_op80
  | x1 => exact decodes_op81
  | x3 => exact decodes_op83
  | x4 | x8 => exact decodes_mr8 rfl fun _ _ => ⟨rfl, rfl⟩
  | x5 | x9 => exact decodes_mr16 rfl fun _ _ => ⟨rfl, rfl⟩
  | x6 | xA => exact decodes_rm8 rfl fun _ _ => ⟨rfl, rfl⟩
  | x7 | xB => exact decodes_rm16 rfl fun _ _ => ⟨rfl, rfl⟩
  | xC => exact decodes_op8C
  | xD => exact decodes_rmMem rfl fun _ _ => ⟨rfl, rfl⟩
  | xE => exact decodes_op8E
  | xF => exact decodes_op8F
  | x2 => exact decodes_bad

theorem decodes_row9 (lo : BitVec 4) : Decodes (BitVec.ofNat 8 (0x90 + lo.toNat)) [] (fun c => row9 c lo.toNat) := by
  cases lo using nibble_cases with
  | x0 | x1 | x2 | x3 | x4 | x5 | x6 | x7 | x8 | x9 | xB | xC | xD | xE | xF => exact decodes_none rfl ⟨rfl, rfl⟩
  | xA => exact decodes_far rfl fun _ _ => ⟨rfl, rfl⟩

theorem decodes_rowA (lo : BitVec 4) : Decodes (BitVec.ofNat 8 (0xA0 + lo.toNat)) [] (fun c => rowA c lo.toNat) := by
  cases lo using nibble_cases with
  | x0 | x1 | x2 | x3 => exact decodes_moffs rfl fun _ _ => ⟨rfl, rfl⟩
  | x4 | x5 | x6 | x7 | xC | xD => exact decodes_string fun _ _ => ⟨rfl, rfl⟩
  | x8 => exact decodes_imm8 rfl fun _ => ⟨rfl, rfl⟩
  | x9 => exact decodes_imm16 rfl fun _ => ⟨rfl, rfl⟩
  | xA | xB | xE | xF => exact decodes_stringTo fun _ => ⟨rfl, rfl⟩

theorem decodes_rowB (lo : BitVec 4) : Decodes (BitVec.ofNat 8 (0xB0 + lo.toNat)) [] (fun c => rowB c lo.toNat) := by
  cases lo using nibble_cases with
  | x0 | x1 | x2 | x3 | x4 | x5 | x6 | x7 => exact decodes_imm8 rfl fun _ => ⟨rfl, rfl⟩
  | x8 | x9 | xA | xB | xC | xD | xE | xF => exact decodes_imm16 rfl fun _ => ⟨rfl, rfl⟩

theorem decodes_rowC (lo : BitVec 4) : Decodes (BitVec.ofNat 8 (0xC0 + lo.toNat)) [] (fun c => rowC c lo.toNat) := by
  cases lo using nibble_cases with
  | x0 => exact decodes_opC0
  | x1 => exact decodes_opC1
  | x2 | xA => exact decodes_imm16 rfl fun _ => ⟨rfl, rfl⟩
  | x3 | x9 | xB | xC | xE | xF => exact decodes_none rfl ⟨rfl, rfl⟩
  | x4 | x5 => exact decodes_rmMem rfl fun _ _ => ⟨rfl, rfl⟩
  | x6 => exact decodes_opC6
  | x7 => exact decodes_opC7
  | x8 => exact decodes_imm16Imm8 rfl fun _ _ => ⟨rfl, rfl⟩
  | xD => exact decodes_imm8 rfl fun _ => ⟨rfl, rfl⟩

theorem decodes_rowD (lo : BitVec 4) : Decodes (BitVec.ofNat 8 (0xD0 + lo.toNat)) [] (fun c => rowD c lo.toNat) := by
  cases lo using nibble_cases with
  | x0 => exact decodes_opD0
  | x1 => exact decodes_opD1
  | x2 => exact decodes_opD2
  | x3 => exact decodes_opD3
  | x7 => exact decodes_implied rfl fun _ => ⟨rfl, rfl⟩
  | x8 => exact decodes_opD8
  | x9 => exact decodes_opD9
  | xA => exact decodes_opDA
  | xB => exact decodes_opDB
  | xC => exact decodes_opDC
  | xD => exact decodes_opDD
  | xE => exact decodes_opDE
  | xF => exact decodes_opDF
  | x4 | x5 | x6 => exact decodes_bad

theorem decodes_rowE (lo : BitVec 4) : Decodes (BitVec.ofNat 8 (0xE0 + lo.toNat)) [] (fun c => rowE c lo.toNat) := by
  cases lo using nibble_cases with
  | x0 | x1 | x2 | x3 | xB => exact decodes_imm8 rfl fun _ => ⟨rfl, rfl⟩
  | x8 | x9 => exact decodes_imm16 rfl fun _ => ⟨rfl, rfl⟩
  | xA => exact decodes_far rfl fun _ _ => ⟨rfl, rfl⟩
  | x4 | x5 | x6 | x7 | xC | xD | xE | xF => exact decodes_bad

theorem decodes_rowF (lo : BitVec 4) : Decodes (BitVec.ofNat 8 (0xF0 + lo.toNat)) [] (fun c => rowF c lo.toNat) := by
  cases lo using nibble_cases with
  | x4 | x5 | x8 | x9 | xA | xB | xC | xD => exact decodes_none rfl ⟨rfl, rfl⟩
  | x6 => exact decodes_opF6
  | x7 => exact decodes_opF7
  | xE => exact decodes_opFE
  | xF => exact decodes_opFF
  | x0 | x1 | x2 | x3 => exact decodes_bad

theorem decodes_opcode (b : Byte) : Decodes b [] (fun c => opcode c b) := by
  have hb : b = BitVec.ofNat 8 (16 * (b.extractLsb' 4 4).toNat + (b.extractLsb' 0 4).toNat) := by decide +revert
  rw [congrArg Decodes hb]
  unfold opcode
  generalize b.extractLsb' 4 4 = hi
  generalize b.extractLsb' 0 4 = lo
  cases hi using nibble_cases with
  | x0 => exact decodes_row0 lo
  | x1 => exact decodes_row1 lo
  | x2 => exact decodes_row2 lo
  | x3 => exact decodes_row3 lo
  | x4 => exact decodes_row4 lo
  | x5 => exact decodes_row5 lo
  | x6 => exact decodes_row6 lo
  | x7 => exact decodes_row7 lo
  | x8 => exact decodes_row8 lo
  | x9 => exact decodes_row9 lo
  | xA => exact decodes_rowA lo
  | xB => exact decodes_rowB lo
  | xC => exact decodes_rowC lo
  | xD => exact decodes_rowD lo
  | xE => exact decodes_rowE lo
  | xF => exact decodes_rowF lo

/-! ## The encoder's formats -/

/-- The instruction, of that shape, is encoded as those bytes: they are as many as the shape says, and they are read back
under every prefix record that the shape agrees with. -/
structure Encoded (i : Instr) (sh : Shape) (bs : List Byte) : Prop where
  length : bs.length = sh.length
  reads : ∀ {c : PfxCtx}, sh.wfIn c = true → ∀ rest, decodeFrom c (bs ++ rest) = .ok (i, rest)

/-- What follows the opcode `op`, which is no prefix, is read by `D`. -/
structure Opens (op : Byte) (D : PfxCtx → Dec Instr) : Prop where
  pfx : pfxOf op = none
  opcode : ∀ c, opcode c op = D c

theorem decodeFrom_opcode {c : PfxCtx} {op : Byte} (hp : pfxOf op = none) (hr : RepAllowed c op) (bs : List Byte) :
    decodeFrom c (op :: bs) = opcode c op bs := by
  have h : (c.rep.isSome && !isString op) = false := by rcases hr with hr | hr <;> simp [hr]
  simp [decodeFrom, hp, h]

theorem bare_wfIn {c : PfxCtx} {n : Nat} (h : Shape.wfIn c (.bare n) = true) : c.rep = none := of_decide_eq_true h

theorem modrm_wfIn {c : PfxCtx} {x : Option Mem} {n : Nat} (h : Shape.wfIn c (.modrm x n) = true) :
    c.rep = none ∧ x.all (fun x => x.wfIn c) = true := by simpa [Shape.wfIn] using h

theorem implied_wfIn {c : PfxCtx} {g : SReg} {n : Nat} (h : Shape.wfIn c (.implied g n) = true) :
    c.rep = none ∧ g = c.seg.getD .ds :=
  (Bool.and_eq_true_iff.1 h).imp of_decide_eq_true of_decide_eq_true

theorem string_wfIn {c : PfxCtx} {g : Option SReg} {r : Option Rep} (h : Shape.wfIn c (.string g r) = true) :
    r = c.rep ∧ g.all (fun x => decide (x = c.seg.getD .ds)) = true :=
  (Bool.and_eq_true_iff.1 h).imp_left of_decide_eq_true

section
variable {op : Byte} {i : Instr}

theorem Opens.encoded {D : PfxCtx → Dec Instr} {sh : Shape} {bs : List Byte} (ho : Opens op D)
    (hl : bs.length + 1 = sh.length) (hr : ∀ {c}, sh.wfIn c = true → RepAllowed c op)
    (hd : ∀ {c}, sh.wfIn c = true → ∀ rest, D c (bs ++ rest) = .ok (i, rest)) : Encoded i sh (op :: bs) where
  length := hl
  reads h rest := by
    rw [List.cons_append, decodeFrom_opcode ho.pfx (hr h), ho.opcode]
    exact hd h rest

/-! With no ModRM byte. -/

theorem encoded_none {bs : List Byte} (hl : bs.length = 1)
    (h : ∀ seg rest, decodeFrom ⟨seg, none⟩ (bs ++ rest) = .ok (i, rest)) : Encoded i (.bare 0) bs where
  length := hl
  reads {c} hc rest := by
    obtain ⟨seg, rep⟩ := c
    obtain rfl : rep = none := bare_wfIn hc
    exact h seg rest

theorem encoded_imm8 {f : Byte → Instr} {v : Byte} (ho : Opens op (fun _ => imm8 f)) : Encoded (f v) (.bare 1) [op, v] :=
  ho.encoded rfl (fun h => .inl (bare_wfIn h)) fun _ _ => rfl

theorem encoded_imm16 {f : Word → Instr} {v : Word} (ho : Opens op (fun _ => imm16 f)) :
    Encoded (f v) (.bare 2) (op :: Encode.word v) :=
  ho.encoded rfl (fun h => .inl (bare_wfIn h)) fun _ _ => bind_of_ok (word_eq_ok.2 rfl)

theorem encoded_imm16Imm8 {f : Word → Byte → Instr} {w : Word} {b : Byte} (ho : Opens op (fun _ => imm16Imm8 f)) :
    Encoded (f w b) (.bare 3) (op :: Encode.word w ++ [b]) :=
  ho.encoded rfl (fun h => .inl (bare_wfIn h)) fun _ _ => bind_of_ok (word_eq_ok.2 rfl)

theorem encoded_far {f : Word → Word → Instr} {v w : Word} (ho : Opens op (fun _ => far f)) :
    Encoded (f v w) (.bare 4) (op :: Encode.word v ++ Encode.word w) :=
  ho.encoded rfl (fun h => .inl (bare_wfIn h)) fun _ _ =>
    (bind_of_ok (word_eq_ok.2 rfl)).trans (bind_of_ok (word_eq_ok.2 rfl))

theorem encoded_moffs {f : SReg → Word → Instr} {g : SReg} {v : Word} (ho : Opens op (fun c => moffs c.seg f)) :
    Encoded (f g v) (.implied g 2) (op :: Encode.word v) :=
  ho.encoded rfl (fun h => .inl (implied_wfIn h).1) fun h _ => by
    rw [(implied_wfIn h).2]
    exact bind_of_ok (word_eq_ok.2 rfl)

theorem encoded_implied {f : SReg → Instr} {g : SReg} (ho : Opens op (fun c => pure (f (c.seg.getD .ds)))) :
    Encoded (f g) (.implied g 0) [op] :=
  ho.encoded rfl (fun h => .inl (implied_wfIn h).1) fun h _ => by
    rw [(implied_wfIn h).2]
    rfl

theorem encoded_string {f : SReg → Option Rep → Instr} {g : SReg} {r : Option Rep}
    (ho : Opens op (fun c => pure (f (c.seg.getD .ds) c.rep))) (hs : isString op = true) :
    Encoded (f g r) (.string (some g) r) [op] :=
  ho.encoded rfl (fun _ => .inr hs) fun h _ => by
    obtain ⟨rfl, hg⟩ := string_wfIn h
    obtain rfl := of_decide_eq_true hg
    rfl

theorem encoded_stringTo {f : Option Rep → Instr} {r : Option Rep} (ho : Opens op (fun c => pure (f c.rep)))
    (hs : isString op = true) : Encoded (f r) (.string none r) [op] :=
  ho.encoded rfl (fun _ => .inr hs) fun h _ => by
    rw [(string_wfIn h).1]
    rfl

/-! With a ModRM byte: its `reg` field, and for an x87 register form all of it, selects what is read after it. -/

theorem mem_length (reg : BitVec 3) (x : Mem) : (Encode.mem reg x).length = 1 + x.ea.dispLen := by
  obtain ⟨g, e⟩ := x
  cases e <;> rfl

theorem rm8_length (reg : BitVec 3) (d : Rm8) :
    (Encode.rm8 reg d).length = 1 + (d.mem?.map (fun x => x.ea.dispLen)).getD 0 := by
  cases d with
  | reg r => rfl
  | mem x => exact mem_length reg x

theorem rm16_length (reg : BitVec 3) (d : Rm16) :
    (Encode.rm16 reg d).length = 1 + (d.mem?.map (fun x => x.ea.dispLen)).getD 0 := by
  cases d with
  | reg r => rfl
  | mem x => exact mem_length reg x

theorem rmOf8_encode {c : PfxCtx} (reg : BitVec 3) {d : Rm8} (hwf : d.mem?.all (fun x => x.wfIn c) = true) :
    ∃ (m : ModRm) (disp : List Byte), m.reg = reg ∧ Encode.rm8 reg d = m.byte :: disp
      ∧ ∀ rest, rmOf8 c.seg m (disp ++ rest) = .ok (d, rest) :=
  rm8_eq ▸ rmOf8_eq ▸ rmOf_encode R8.ofNum_num reg hwf

theorem rmOf16_encode {c : PfxCtx} (reg : BitVec 3) {d : Rm16} (hwf : d.mem?.all (fun x => x.wfIn c) = true) :
    ∃ (m : ModRm) (disp : List Byte), m.reg = reg ∧ Encode.rm16 reg d = m.byte :: disp
      ∧ ∀ rest, rmOf16 c.seg m (disp ++ rest) = .ok (d, rest) :=
  rm16_eq ▸ rmOf16_eq ▸ rmOf_encode R16.ofNum_num reg hwf

theorem bind_modrm_byte (G : ModRm → Dec Instr) (m : ModRm) (bs : List Byte) :
    (modrm >>= G) (m.byte :: bs) = G m bs := bind_of_ok (modrm_byte m bs)

variable {G : PfxCtx → ModRm → Dec Instr} {reg : BitVec 3} (ho : Opens op (fun c => modrm >>= G c))
include ho

theorem encoded_st {f : StIdx → Instr} {k : StIdx} {base : BitVec 5}
    (hG : ∀ c, G c ⟨3, base.extractLsb' 0 3, k⟩ = pure (f k)) (hb : 3#2 ++ base.extractLsb' 0 3 = base) :
    Encoded (f k) (.modrm none 0) [op, Encode.st base k] :=
  ho.encoded rfl (fun h => .inl (modrm_wfIn h).1) fun {c} _ rest => by
    rw [← hb]
    exact (bind_modrm_byte (G c) ⟨3, _, k⟩ rest).trans (congrFun (hG c) rest)

theorem encoded_m8 {f : Rm8 → Instr} {d : Rm8} (hG : ∀ c mod rm, G c ⟨mod, reg, rm⟩ = m8 c.seg ⟨mod, reg, rm⟩ f) :
    Encoded (f d) (.modrm d.mem? 0) (op :: Encode.rm8 reg d) :=
  ho.encoded (by simp [rm8_length, Shape.length]; omega) (fun h => .inl (modrm_wfIn h).1) fun {c} h rest => by
    obtain ⟨m, disp, rfl, hb, hd⟩ := rmOf8_encode reg (modrm_wfIn h).2
    rw [hb, List.cons_append, bind_modrm_byte, hG c m.mod m.rm]
    exact bind_of_ok (hd rest)

theorem encoded_m16 {f : Rm16 → Instr} {d : Rm16} (hG : ∀ c mod rm, G c ⟨mod, reg, rm⟩ = m16 c.seg ⟨mod, reg, rm⟩ f) :
    Encoded (f d) (.modrm d.mem? 0) (op :: Encode.rm16 reg d) :=
  ho.encoded (by simp [rm16_length, Shape.length]; omega) (fun h => .inl (modrm_wfIn h).1) fun {c} h rest => by
    obtain ⟨m, disp, rfl, hb, hd⟩ := rmOf16_encode reg (modrm_wfIn h).2
    rw [hb, List.cons_append, bind_modrm_byte, hG c m.mod m.rm]
    exact bind_of_ok (hd rest)

theorem encoded_m8Imm8 {f : Rm8 → Byte → Instr} {d : Rm8} {v : Byte}
    (hG : ∀ c mod rm, G c ⟨mod, reg, rm⟩ = m8Imm8 c.seg ⟨mod, reg, rm⟩ f) :
    Encoded (f d v) (.modrm d.mem? 1) (op :: Encode.rm8 reg d ++ [v]) :=
  ho.encoded (bs := Encode.rm8 reg d ++ [v]) (by simp [rm8_length, Shape.length]; omega)
      (fun h => .inl (modrm_wfIn h).1) fun {c} h rest => by
    obtain ⟨m, disp, rfl, hb, hd⟩ := rmOf8_encode reg (modrm_wfIn h).2
    rw [hb, List.append_assoc, List.cons_append, bind_modrm_byte, hG c m.mod m.rm]
    exact bind_of_ok (hd _)

theorem encoded_m16Imm8 {f : Rm16 → Byte → Instr} {d : Rm16} {v : Byte}
    (hG : ∀ c mod rm, G c ⟨mod, reg, rm⟩ = m16Imm8 c.seg ⟨mod, reg, rm⟩ f) :
    Encoded (f d v) (.modrm d.mem? 1) (op :: Encode.rm16 reg d ++ [v]) :=
  ho.encoded (bs := Encode.rm16 reg d ++ [v]) (by simp [rm16_length, Shape.length]; omega)
      (fun h => .inl (modrm_wfIn h).1) fun {c} h rest => by
    obtain ⟨m, disp, rfl, hb, hd⟩ := rmOf16_encode reg (modrm_wfIn h).2
    rw [hb, List.append_assoc, List.cons_append, bind_modrm_byte, hG c m.mod m.rm]
    exact bind_of_ok (hd _)

theorem encoded_m16Imm16 {f : Rm16 → Word → Instr} {d : Rm16} {v : Word}
    (hG : ∀ c mod rm, G c ⟨mod, reg, rm⟩ = m16Imm16 c.seg ⟨mod, reg, rm⟩ f) :
    Encoded (f d v) (.modrm d.mem? 2) (op :: Encode.rm16 reg d ++ Encode.word v) :=
  ho.encoded (bs := Encode.rm16 reg d ++ Encode.word v) (by simp [rm16_length, Shape.length, Encode.word]; omega)
      (fun h => .inl (modrm_wfIn h).1) fun {c} h rest => by
    obtain ⟨m, disp, rfl, hb, hd⟩ := rmOf16_encode reg (modrm_wfIn h).2
    rw [hb, List.append_assoc, List.cons_append, bind_modrm_byte, hG c m.mod m.rm]
    exact (bind_of_ok (hd _)).trans (bind_of_ok (word_eq_ok.2 rfl))

theorem encoded_memOnly {f : Mem → Instr} {x : Mem}
    (hG : ∀ c mod rm, mod ≠ 3#2 → G c ⟨mod, reg, rm⟩ = memOnly c.seg ⟨mod, reg, rm⟩ f) :
    Encoded (f x) (.modrm (some x) 0) (op :: Encode.mem reg x) :=
  ho.encoded (by simp [mem_length, Shape.length]; omega) (fun h => .inl (modrm_wfIn h).1) fun {c} h rest => by
    obtain ⟨m, disp, hm, rfl, hb, hd⟩ := mem_encode reg (show x.wfIn c = true from (modrm_wfIn h).2)
    rw [hb, List.cons_append, bind_modrm_byte, hG c m.mod m.rm hm, memOnly, if_neg hm]
    exact bind_of_ok (hd rest)

omit ho

/-- An x87 instruction with no operand: its two bytes. -/
theorem encoded_register {bs : List Byte} (hl : bs.length = 2)
    (h : ∀ seg rest, decodeFrom ⟨seg, none⟩ (bs ++ rest) = .ok (i, rest)) : Encoded i (.modrm none 0) bs where
  length := hl
  reads {c} hc rest := by
    obtain ⟨seg, rep⟩ := c
    obtain rfl : rep = none := (modrm_wfIn hc).1
    exact h seg rest

/-! A ModRM byte whose `reg` field is a register. -/

theorem encoded_mr8 {f : Rm8 → R8 → Instr} {d : Rm8} {r : R8} (ho : Opens op (fun c => mr8 c.seg f)) :
    Encoded (f d r) (.modrm d.mem? 0) (op :: Encode.rm8 r.num d) :=
  encoded_m8 (G := fun c m => m8 c.seg m fun d => f d (R8.ofNum m.reg)) (f := (f · r)) ⟨ho.pfx, ho.opcode⟩
    fun _ _ _ => by rw [R8.ofNum_num]

theorem encoded_mr16 {f : Rm16 → R16 → Instr} {d : Rm16} {r : R16} (ho : Opens op (fun c => mr16 c.seg f)) :
    Encoded (f d r) (.modrm d.mem? 0) (op :: Encode.rm16 r.num d) :=
  encoded_m16 (G := fun c m => m16 c.seg m fun d => f d (R16.ofNum m.reg)) (f := (f · r)) ⟨ho.pfx, ho.opcode⟩
    fun _ _ _ => by rw [R16.ofNum_num]

theorem encoded_rm8 {f : R8 → Rm8 → Instr} {d : Rm8} {r : R8} (ho : Opens op (fun c => rm8 c.seg f)) :
    Encoded (f r d) (.modrm d.mem? 0) (op :: Encode.rm8 r.num d) :=
  encoded_m8 (G := fun c m => m8 c.seg m fun d => f (R8.ofNum m.reg) d) ⟨ho.pfx, ho.opcode⟩
    fun _ _ _ => by rw [R8.ofNum_num]

theorem encoded_rm16 {f : R16 → Rm16 → Instr} {d : Rm16} {r : R16} (ho : Opens op (fun c => rm16 c.seg f)) :
    Encoded (f r d) (.modrm d.mem? 0) (op :: Encode.rm16 r.num d) :=
  encoded_m16 (G := fun c m => m16 c.seg m fun d => f (R16.ofNum m.reg) d) ⟨ho.pfx, ho.opcode⟩
    fun _ _ _ => by rw [R16.ofNum_num]

theorem encoded_rmMem {f : R16 → Mem → Instr} {x : Mem} {r : R16} (ho : Opens op (fun c => rmMem c.seg f)) :
    Encoded (f r x) (.modrm (some x) 0) (op :: Encode.mem r.num x) :=
  encoded_memOnly (G := fun c m => memOnly c.seg m (f (R16.ofNum m.reg))) ⟨ho.pfx, ho.opcode⟩
    fun _ _ _ _ => by rw [R16.ofNum_num]

theorem encoded_rmImm8 {f : R16 → Rm16 → Byte → Instr} {d : Rm16} {r : R16} {v : Byte}
    (ho : Opens op (fun c => rmImm8 c.seg f)) :
    Encoded (f r d v) (.modrm d.mem? 1) (op :: Encode.rm16 r.num d ++ [v]) :=
  encoded_m16Imm8 (G := fun c m => m16Imm8 c.seg m (f (R16.ofNum m.reg))) ⟨ho.pfx, ho.opcode⟩
    fun _ _ _ => by rw [R16.ofNum_num]

theorem encoded_rmImm16 {f : R16 → Rm16 → Word → Instr} {d : Rm16} {r : R16} {v : Word}
    (ho : Opens op (fun c => rmImm16 c.seg f)) :
    Encoded (f r d v) (.modrm d.mem? 2) (op :: Encode.rm16 r.num d ++ Encode.word v) :=
  encoded_m16Imm16 (G := fun c m => m16Imm16 c.seg m (f (R16.ofNum m.reg))) ⟨ho.pfx, ho.opcode⟩
    fun _ _ _ => by rw [R16.ofNum_num]

end

/-! ## Every instruction -/

/-- The bytes of every instruction that is no prefix are as many as its shape says and are read back, by its format. -/
theorem encoded (i : Instr) (h : i.shape ≠ .wrapper) : Encoded i i.shape i.encodeBody := by
  cases i with
  | esPrefix _ | csPrefix _ | ssPrefix _ | dsPrefix _ | lockPrefix _ | repnePrefix _ | repPrefix _ => exact absurd rfl h
  | addRm8R8 d r | orRm8R8 d r | adcRm8R8 d r | sbbRm8R8 d r | andRm8R8 d r | subRm8R8 d r | xorRm8R8 d r
  | cmpRm8R8 d r | testRm8R8 d r | movRm8R8 d r => exact encoded_mr8 ⟨rfl, fun _ => rfl⟩
  | addRm16R16 d r | orRm16R16 d r | adcRm16R16 d r | sbbRm16R16 d r | andRm16R16 d r | subRm16R16 d r
  | xorRm16R16 d r | cmpRm16R16 d r | testRm16R16 d r | movRm16R16 d r => exact encoded_mr16 ⟨rfl, fun _ => rfl⟩
  | addR8Rm8 r x | orR8Rm8 r x | adcR8Rm8 r x | sbbR8Rm8 r x | andR8Rm8 r x | subR8Rm8 r x | xorR8Rm8 r x
  | cmpR8Rm8 r x | xchgR8Rm8 r x | movR8Rm8 r x => exact encoded_rm8 ⟨rfl, fun _ => rfl⟩
  | addR16Rm16 r x | orR16Rm16 r x | adcR16Rm16 r x | sbbR16Rm16 r x | andR16Rm16 r x | subR16Rm16 r x
  | xorR16Rm16 r x | cmpR16Rm16 r x | xchgR16Rm16 r x | movR16Rm16 r x => exact encoded_rm16 ⟨rfl, fun _ => rfl⟩
  | addAlImm8 imm | orAlImm8 imm | adcAlImm8 imm | sbbAlImm8 imm | andAlImm8 imm | subAlImm8 imm | xorAlImm8 imm
  | cmpAlImm8 imm | pushImm8 imm | joRel8 rel | jnoRel8 rel | jbRel8 rel | jnbRel8 rel | jzRel8 rel | jnzRel8 rel
  | jbeRel8 rel | jnbeRel8 rel | jsRel8 rel | jnsRel8 rel | jpRel8 rel | jnpRel8 rel | jlRel8 rel | jnlRel8 rel
  | jleRel8 rel | jnleRel8 rel | testAlImm8 imm | intImm8 imm | loopneRel8 rel | loopeRel8 rel | loopRel8 rel
  | jcxzRel8 rel | jmpRel8 rel => exact encoded_imm8 ⟨rfl, fun _ => rfl⟩
  | addAxImm16 imm | orAxImm16 imm | adcAxImm16 imm | sbbAxImm16 imm | andAxImm16 imm | subAxImm16 imm
  | xorAxImm16 imm | cmpAxImm16 imm | pushImm16 imm | testAxImm16 imm | retImm16 imm | retfImm16 imm
  | callRel16 rel | jmpRel16 rel => exact encoded_imm16 ⟨rfl, fun _ => rfl⟩
  | pushEs | pushCs | pushSs | pushDs | popEs | popSs | popDs | pusha | popa | nop | xchgAxCx | xchgAxDx | xchgAxBx
  | xchgAxSp | xchgAxBp | xchgAxSi | xchgAxDi | cbw | cwd | wait | pushf | popf | sahf | lahf | ret | leave | retf
  | int3 | into | iret | hlt | cmc | clc | stc | cli | sti | cld | std => exact encoded_none rfl fun _ _ => rfl
  | incR16 r | decR16 r | pushR16 r | popR16 r => cases r <;> exact encoded_none rfl fun _ _ => rfl
  | boundR16M1616 r m | leaR16M r m | lesR16M1616 r m | ldsR16M1616 r m => exact encoded_rmMem ⟨rfl, fun _ => rfl⟩
  | imulR16Rm16Imm16 r x imm => exact encoded_rmImm16 ⟨rfl, fun _ => rfl⟩
  | imulR16Rm16Imm8 r x imm => exact encoded_rmImm8 ⟨rfl, fun _ => rfl⟩
  | addRm8Imm8 d imm | orRm8Imm8 d imm | adcRm8Imm8 d imm | sbbRm8Imm8 d imm | andRm8Imm8 d imm | subRm8Imm8 d imm
  | xorRm8Imm8 d imm | cmpRm8Imm8 d imm | rolRm8Imm8 d imm | rorRm8Imm8 d imm | rclRm8Imm8 d imm | rcrRm8Imm8 d imm
  | shlRm8Imm8 d imm | shrRm8Imm8 d imm | sarRm8Imm8 d imm | movRm8Imm8 d imm | testRm8Imm8 d imm =>
    exact encoded_m8Imm8 ⟨rfl, fun _ => rfl⟩ fun _ _ _ => rfl
  | addRm16Imm16 d imm | orRm16Imm16 d imm | adcRm16Imm16 d imm | sbbRm16Imm16 d imm | andRm16Imm16 d imm
  | subRm16Imm16 d imm | xorRm16Imm16 d imm | cmpRm16Imm16 d imm | movRm16Imm16 d imm | testRm16Imm16 d imm =>
    exact encoded_m16Imm16 ⟨rfl, fun _ => rfl⟩ fun _ _ _ => rfl
  | addRm16Imm8 d imm | orRm16Imm8 d imm | adcRm16Imm8 d imm | sbbRm16Imm8 d imm | andRm16Imm8 d imm
  | subRm16Imm8 d imm | xorRm16Imm8 d imm | cmpRm16Imm8 d imm | rolRm16Imm8 d imm | rorRm16Imm8 d imm
  | rclRm16Imm8 d imm | rcrRm16Imm8 d imm | shlRm16Imm8 d imm | shrRm16Imm8 d imm | sarRm16Imm8 d imm =>
    exact encoded_m16Imm8 ⟨rfl, fun _ => rfl⟩ fun _ _ _ => rfl
  | movRm16Es d | movRm16Cs d | movRm16Ss d | movRm16Ds d | movEsRm16 d | movSsRm16 d | movDsRm16 d | popRm16 d
  | rolRm16One d | rorRm16One d | rclRm16One d | rcrRm16One d | shlRm16One d | shrRm16One d | sarRm16One d
  | rolRm16Cl d | rorRm16Cl d | rclRm16Cl d | rcrRm16Cl d | shlRm16Cl d | shrRm16Cl d | sarRm16Cl d | notRm16 d
  | negRm16 d | mulRm16 d | imulRm16 d | divRm16 d | idivRm16 d | incRm16 d | decRm16 d | callRm16 d | jmpRm16 d
  | pushRm16 d => exact encoded_m16 ⟨rfl, fun _ => rfl⟩ fun _ _ _ => rfl
  | callPtr1616 off sel | jmpPtr1616 off sel => exact encoded_far ⟨rfl, fun _ => rfl⟩
  | movAlMoffs8 seg off | movAxMoffs16 seg off | movMoffs8Al seg off | movMoffs16Ax seg off =>
    exact encoded_moffs ⟨rfl, fun _ => rfl⟩
  | movsb seg rep | movsw seg rep | cmpsb seg rep | cmpsw seg rep | lodsb seg rep | lodsw seg rep =>
    exact encoded_string ⟨rfl, fun _ => rfl⟩ rfl
  | stosb rep | stosw rep | scasb rep | scasw rep => exact encoded_stringTo ⟨rfl, fun _ => rfl⟩ rfl
  | movR8Imm8 r imm => cases r <;> exact encoded_imm8 ⟨rfl, fun _ => rfl⟩
  | movR16Imm16 r imm => cases r <;> exact encoded_imm16 ⟨rfl, fun _ => rfl⟩
  | rolRm8One d | rorRm8One d | rclRm8One d | rcrRm8One d | shlRm8One d | shrRm8One d | sarRm8One d | rolRm8Cl d
  | rorRm8Cl d | rclRm8Cl d | rcrRm8Cl d | shlRm8Cl d | shrRm8Cl d | sarRm8Cl d | notRm8 d | negRm8 d | mulRm8 d
  | imulRm8 d | divRm8 d | idivRm8 d | incRm8 d | decRm8 d => exact encoded_m8 ⟨rfl, fun _ => rfl⟩ fun _ _ _ => rfl
  | enterImm16Imm8 size level => exact encoded_imm16Imm8 ⟨rfl, fun _ => rfl⟩
  | xlat seg => exact encoded_implied ⟨rfl, fun _ => rfl⟩
  | callM1616 m | jmpM1616 m => exact encoded_memOnly ⟨rfl, fun _ => rfl⟩ fun _ _ _ _ => rfl
  | faddM32 m | fmulM32 m | fcomM32 m | fcompM32 m | fsubM32 m | fsubrM32 m | fdivM32 m | fdivrM32 m | faddM64 m
  | fmulM64 m | fcomM64 m | fcompM64 m | fsubM64 m | fsubrM64 m | fdivM64 m | fdivrM64 m | fiaddM32 m | fimulM32 m
  | ficomM32 m | ficompM32 m | fisubM32 m | fisubrM32 m | fidivM32 m | fidivrM32 m | fiaddM16 m | fimulM16 m
  | ficomM16 m | ficompM16 m | fisubM16 m | fisubrM16 m | fidivM16 m | fidivrM16 m | fldM32 m | fstM32 m
  | fstpM32 m | fldcwM16 m | fnstcwM16 m | fildM32 m | fistM32 m | fistpM32 m | fldM80 m | fstpM80 m | fldM64 m
  | fstM64 m | fstpM64 m | fnstswM16 m | fildM16 m | fistM16 m | fistpM16 m | fildM64 m | fistpM64 m =>
    exact encoded_memOnly ⟨rfl, fun _ => rfl⟩ fun _ _ _ h => if_neg h
  | faddStSti i | fmulStSti i | fcomSti i | fcompSti i | fsubStSti i | fsubrStSti i | fdivStSti i | fdivrStSti i
  | fldSti i | fxchSti i | faddStiSt i | fmulStiSt i | fsubrStiSt i | fsubStiSt i | fdivrStiSt i | fdivStiSt i
  | ffreeSti i | fstSti i | fstpSti i | faddpStiSt i | fmulpStiSt i | fsubrpStiSt i | fsubpStiSt i | fdivrpStiSt i
  | fdivpStiSt i => exact encoded_st ⟨rfl, fun _ => rfl⟩ (fun _ => rfl) rfl
  | fnop | fchs | fabs | ftst | fxam | fld1 | fldl2t | fldl2e | fldpi | fldlg2 | fldln2 | fldz | fdecstp | fincstp
  | fsqrt | frndint | fnclex | fninit | fcompp | fnstswAx => exact encoded_register rfl fun _ _ => rfl

/-! ## Prefixes -/

theorem pfxOf_code (p : Pfx) : pfxOf p.code = some p := by
  cases p with
  | seg r => cases r <;> rfl
  | lock => rfl
  | rep r => cases r <;> rfl

theorem code_of_pfxOf {b : Byte} {p : Pfx} (h : pfxOf b = some p) : p.code = b := by
  unfold pfxOf at h
  split at h <;> cases h <;> exact (BitVec.eq_of_toNat_eq ‹_›).symm

/-- The instruction under these prefixes, the first one outermost. -/
def wrapAll (ps : List Pfx) (i : Instr) : Instr := ps.foldr wrap i

@[simp] theorem prefixes_wrap (p : Pfx) (i : Instr) : (wrap p i).prefixes = p :: i.prefixes := by
  cases p with
  | seg r => cases r <;> rfl
  | lock => rfl
  | rep r => cases r <;> rfl

@[simp] theorem body_wrap (p : Pfx) (i : Instr) : (wrap p i).body = i.body := by
  cases p with
  | seg r => cases r <;> rfl
  | lock => rfl
  | rep r => cases r <;> rfl

theorem wrapAll_prefixes_body (i : Instr) : wrapAll i.prefixes i.body = i := by
  induction i with
  | esPrefix _ ih => exact congrArg Instr.esPrefix ih
  | csPrefix _ ih => exact congrArg Instr.csPrefix ih
  | ssPrefix _ ih => exact congrArg Instr.ssPrefix ih
  | dsPrefix _ ih => exact congrArg Instr.dsPrefix ih
  | lockPrefix _ ih => exact congrArg Instr.lockPrefix ih
  | repnePrefix _ ih => exact congrArg Instr.repnePrefix ih
  | repPrefix _ ih => exact congrArg Instr.repPrefix ih
  | _ => rfl

theorem prefixes_eq_nil {i : Instr} (h : i.shape ≠ .wrapper) : i.prefixes = [] := by
  cases i with
  | esPrefix _ | csPrefix _ | ssPrefix _ | dsPrefix _ | lockPrefix _ | repnePrefix _ | repPrefix _ => exact absurd rfl h
  | _ => rfl

theorem body_eq_self {i : Instr} (h : i.shape ≠ .wrapper) : i.body = i := by
  simpa [wrapAll, prefixes_eq_nil h] using wrapAll_prefixes_body i

theorem body_shape_ne_wrapper (i : Instr) : i.body.shape ≠ .wrapper := by
  induction i with
  | esPrefix _ ih | csPrefix _ ih | ssPrefix _ ih | dsPrefix _ ih | lockPrefix _ ih | repnePrefix _ ih | repPrefix _ ih =>
    exact ih
  | _ => exact nofun

theorem shape_ne_wrapper_of_wfIn {c : PfxCtx} {sh : Shape} (h : sh.wfIn c = true) : sh ≠ .wrapper := by
  rintro rfl
  cases h

theorem prefixes_wrapAll (ps : List Pfx) (i : Instr) : (wrapAll ps i).prefixes = ps ++ i.prefixes := by
  induction ps with
  | nil => rfl
  | cons p ps ih => exact (prefixes_wrap p _).trans (congrArg _ ih)

theorem body_wrapAll (ps : List Pfx) (i : Instr) : (wrapAll ps i).body = i.body := by
  induction ps with
  | nil => rfl
  | cons p ps ih => exact (body_wrap p _).trans ih

/-- Prefix bytes add to the prefix record and wrap the instruction after them (30_encoding R123). -/
theorem decodeFrom_prefixes (ps : List Pfx) (c : PfxCtx) (bs : List Byte) :
    decodeFrom c (ps.map Pfx.code ++ bs)
      = bind (m := Dec) (decodeFrom (ps.foldl PfxCtx.add c)) (fun i => pure (wrapAll ps i)) bs := by
  induction ps generalizing c with
  | nil =>
    cases h : decodeFrom c bs with
    | error e => exact h.trans (bind_of_error h).symm
    | ok q => exact h.trans (bind_of_ok (f := fun i => pure (wrapAll [] i)) h).symm
  | cons p ps ih =>
    rw [List.map_cons, List.cons_append, decodeFrom, pfxOf_code, List.foldl_cons]
    simp only [ih]
    cases h : decodeFrom (ps.foldl PfxCtx.add (c.add p)) bs with
    | error e => rw [bind_of_error h, bind_of_error h]
    | ok q => rw [bind_of_ok h, bind_of_ok h]; rfl

/-- Any bytes are prefix bytes, and then nothing or an opcode. -/
theorem exists_prefixes (bs : List Byte) :
    ∃ ps : List Pfx, bs = ps.map Pfx.code ∨ ∃ op tl, bs = ps.map Pfx.code ++ op :: tl ∧ pfxOf op = none := by
  induction bs with
  | nil => exact ⟨[], .inl rfl⟩
  | cons b bs ih =>
    cases hp : pfxOf b with
    | none => exact ⟨[], .inr ⟨b, bs, rfl, hp⟩⟩
    | some p =>
      obtain rfl := code_of_pfxOf hp
      obtain ⟨ps, rfl | ⟨op, tl, rfl, hop⟩⟩ := ih
      · exact ⟨p :: ps, .inl rfl⟩
      · exact ⟨p :: ps, .inr ⟨op, tl, rfl, hop⟩⟩

theorem decodeFrom_only_prefixes (ps : List Pfx) (c : PfxCtx) : decodeFrom c (ps.map Pfx.code) = .error .truncated := by
  simpa using (decodeFrom_prefixes ps c []).trans (bind_of_error rfl)

theorem rep_foldl_add {c c' : PfxCtx} (h : c.rep = c'.rep) (ps : List Pfx) :
    (ps.foldl PfxCtx.add c).rep = (ps.foldl PfxCtx.add c').rep := by
  induction ps generalizing c c' with
  | nil => exact h
  | cons p ps ih => exact ih (by cases p <;> simp [PfxCtx.add, h])

/-! ## One instruction with its prefixes -/

theorem decodeFrom_invalid_of_repeat {c : PfxCtx} {op : Byte} (hp : pfxOf op = none) (hr : ¬RepAllowed c op)
    (bs : List Byte) : decodeFrom c (op :: bs) = .error .invalid := by
  obtain ⟨hrep, hs⟩ := not_or.1 hr
  simp [decodeFrom, hp, Option.isSome_iff_ne_none.2 hrep, hs]

/-- What is decoded agrees with the prefix record in force, and its bytes are those read. -/
theorem decodeFrom_sound {c : PfxCtx} {bs rest : List Byte} {i : Instr} (h : decodeFrom c bs = .ok (i, rest)) :
    i.wfIn c = true ∧ bs = encode i ++ rest := by
  obtain ⟨ps, rfl | ⟨op, tl, rfl, hp⟩⟩ := exists_prefixes bs
  · rw [decodeFrom_only_prefixes] at h
    cases h
  · rw [decodeFrom_prefixes] at h
    obtain ⟨j, mid, hd, h⟩ := bind_eq_ok.1 h
    obtain ⟨rfl, rfl⟩ := (pure_eq_ok ..).1 h
    by_cases hr : RepAllowed (ps.foldl PfxCtx.add c) op
    · rw [decodeFrom_opcode hp hr] at hd
      obtain ⟨hwf, hb⟩ := (decodes_opcode op).sound hr hd
      have hj := shape_ne_wrapper_of_wfIn hwf
      have hprefixes : (wrapAll ps j).prefixes = ps := by rw [prefixes_wrapAll, prefixes_eq_nil hj, List.append_nil]
      have hbody : (wrapAll ps j).body = j := by rw [body_wrapAll, body_eq_self hj]
      constructor
      · rwa [Instr.wfIn, hprefixes, hbody]
      · rw [encode, hprefixes, hbody, List.append_assoc, ← hb]
        rfl
    · rw [decodeFrom_invalid_of_repeat hp hr] at hd
      cases hd

/-- An instruction that agrees with the prefix record is read back from its bytes. -/
theorem decodeFrom_encode {c : PfxCtx} {i : Instr} (h : i.wfIn c = true) (rest : List Byte) :
    decodeFrom c (encode i ++ rest) = .ok (i, rest) := by
  rw [encode, List.append_assoc, decodeFrom_prefixes,
    bind_of_ok ((encoded i.body (body_shape_ne_wrapper i)).reads h rest), wrapAll_prefixes_body]
  rfl

theorem encode_length (i : Instr) : (encode i).length = i.length := by
  rw [encode, List.length_append, List.length_map, (encoded i.body (body_shape_ne_wrapper i)).length]
  rfl

theorem follows_decodeFrom_opcode {c c' : PfxCtx} (h : c.rep = c'.rep) {op : Byte} (hp : pfxOf op = none) :
    Follows AnyTwo (fun bs => decodeFrom c (op :: bs)) (fun bs => decodeFrom c' (op :: bs)) := by
  have hiff : RepAllowed c' op ↔ RepAllowed c op := by rw [RepAllowed, RepAllowed, h]
  by_cases hr : RepAllowed c op
  · simpa only [decodeFrom_opcode hp hr, decodeFrom_opcode hp (hiff.2 hr)] using (decodes_opcode op).follows c c'
  · simp only [decodeFrom_invalid_of_repeat hp hr, decodeFrom_invalid_of_repeat hp (mt hiff.1 hr)]
    exact follows_bad

/-- What is decoded, and where it fails, is decided by the bytes read: bytes that follow change nothing, and another segment
override in force changes only the segments of the operands. -/
theorem follows_decodeFrom {c c' : PfxCtx} (h : c.rep = c'.rep) : Follows AnyTwo (decodeFrom c) (decodeFrom c') := by
  have key (ps : List Pfx) {op : Byte} (hp : pfxOf op = none) :
      Follows AnyTwo (fun bs => decodeFrom c (ps.map Pfx.code ++ op :: bs))
        (fun bs => decodeFrom c' (ps.map Pfx.code ++ op :: bs)) := by
    simp only [decodeFrom_prefixes]
    exact (follows_decodeFrom_opcode (rep_foldl_add h ps) hp).bind fun _ _ _ => follows_pure trivial
  refine ⟨fun {bs rest i} hd more => ?_, fun {bs} hd more => ?_⟩ <;>
    obtain ⟨ps, rfl | ⟨op, tl, rfl, hp⟩⟩ := exists_prefixes bs
  · rw [decodeFrom_only_prefixes] at hd
    cases hd
  · simpa using (key ps hp).ok hd more
  · rw [decodeFrom_only_prefixes] at hd
    cases hd
  · simpa using (key ps hp).invalid hd more

/-- The bytes of an instruction up to any of them do not decide it, also where a segment override stands before them. -/
theorem decodeFrom_take_encode {c c' : PfxCtx} {i : Instr} (h : i.wfIn c = true) (hrep : c.rep = c'.rep) {k : Nat}
    (hk : k < (encode i).length) : decodeFrom c' ((encode i).take k) = .error .truncated := by
  have hfull : decodeFrom c ((encode i).take k ++ (encode i).drop k) = .ok (i, []) := by
    simpa using decodeFrom_encode h []
  have hback := follows_decodeFrom hrep.symm
  cases hd : decodeFrom c' ((encode i).take k) with
  | ok q =>
    obtain ⟨j, -, hj⟩ := hback.ok (a := q.1) (rest := q.2) hd ((encode i).drop k)
    have hnil : q.2 ++ (encode i).drop k = [] := (Prod.mk.inj (Except.ok.inj (hfull.symm.trans hj))).2.symm
    exact absurd (List.drop_eq_nil_iff.1 (List.append_eq_nil_iff.1 hnil).2) (by omega)
  | error e =>
    cases e with
    | truncated => rfl
    | invalid => exact absurd (hfull.symm.trans (hback.invalid hd _)) nofun

/-! ## At most fifteen bytes (30_encoding R127) -/

theorem decode_of_ok {bs rest : List Byte} {i : Instr} (h : decodeFrom {} (bs.take Config.maxInsnLen) = .ok (i, rest)) :
    decode bs = .ok (i, (bs.take Config.maxInsnLen).length - rest.length) := by
  rw [decode, h]

theorem decode_of_truncated {bs : List Byte} (h : decodeFrom {} (bs.take Config.maxInsnLen) = .error .truncated) :
    decode bs = if Config.maxInsnLen ≤ bs.length then .error .invalid else .error .truncated := by
  rw [decode, h]

theorem decode_of_invalid {bs : List Byte} (h : decodeFrom {} (bs.take Config.maxInsnLen) = .error .invalid) :
    decode bs = .error .invalid := by
  rw [decode, h]

theorem decode_encode {i : Instr} (h : i.wf = true) (rest : List Byte) : decode (encode i ++ rest) = .ok (i, i.length) := by
  obtain ⟨hwf, hlen⟩ := Bool.and_eq_true_iff.1 h
  have hlen : (encode i).length ≤ Config.maxInsnLen := encode_length i ▸ of_decide_eq_true hlen
  have htake : (encode i ++ rest).take Config.maxInsnLen
      = encode i ++ rest.take (Config.maxInsnLen - (encode i).length) := by
    rw [List.take_append, List.take_of_length_le hlen]
  rw [decode_of_ok (htake ▸ decodeFrom_encode hwf _), htake, List.length_append, Nat.add_sub_cancel, encode_length]

theorem encode_decode {bs : List Byte} {i : Instr} {len : Nat} (h : decode bs = .ok (i, len)) :
    i.wf = true ∧ len = i.length ∧ len ≤ Config.maxInsnLen ∧ encode i = bs.take len := by
  cases hd : decodeFrom {} (bs.take Config.maxInsnLen) with
  | error e =>
    cases e with
    | invalid => rw [decode_of_invalid hd] at h; cases h
    | truncated => rw [decode_of_truncated hd] at h; split at h <;> cases h
  | ok q =>
    obtain ⟨j, rest⟩ := q
    rw [decode_of_ok hd] at h
    cases h
    obtain ⟨hwf, hbs⟩ := decodeFrom_sound hd
    have hlen : (bs.take Config.maxInsnLen).length - rest.length = (encode i).length := by simp [hbs]
    have hmax : (encode i).length ≤ Config.maxInsnLen := by
      have := congrArg List.length hbs
      simp only [List.length_append, List.length_take] at this
      omega
    refine ⟨?_, hlen.trans (encode_length i), hlen ▸ hmax, ?_⟩
    · rw [Instr.wf, hwf, ← encode_length, decide_eq_true hmax]
      rfl
    · have htake := congrArg (List.take (encode i).length) hbs
      rw [List.take_take, Nat.min_eq_left hmax, List.take_left] at htake
      rw [hlen, htake]

/-- Words that are the encodings of well-formed instructions decode to them. -/
theorem decode_of_encode_all {l : List (List Byte × Instr)}
    (h : l.all (fun x => x.2.wf && decide (encode x.2 = x.1)) = true) :
    ∀ x ∈ l, decode x.1 = .ok (x.2, x.1.length) := by
  intro x hx
  obtain ⟨hwf, he⟩ := Bool.and_eq_true_iff.1 (List.all_eq_true.1 h x hx)
  have hd := decode_encode hwf []
  rwa [List.append_nil, ← encode_length, of_decide_eq_true he] at hd

end Decode

/-- Settles O58: the prefixes wrap the body, and the body is read back by its format. -/
theorem decodeEncode : Obligations.DecodeEncode := fun _ rest h => Decode.decode_encode h rest

/-- Settles O59: every row of the opcode table is sound, and so is a prefix before it. -/
theorem encodeDecode : Obligations.EncodeDecode := fun _ _ _ h => Decode.encode_decode h

/-- Settles O60: each instruction is well-formed and encoded as the word written out. -/
theorem decodeWords : Obligations.DecodeWords := Decode.decode_of_encode_all (by decide)

end Sys2Proof

/-! PROOFS of the statements about the step and the bytes at `CS:IP` (30_encoding, 60_exceptions): what is fetched, what
the step is by what was decoded, the bytes that match no admitted instruction; and the prefix rows. -/

namespace Sys2Proof.Machine

open Sys2Proof.Decode Sys2Proof.Spec

/-! ## Fetch -/

/-- The bytes that stand in bounds are fetched, and after them what follows. -/
theorem Memory.fetch_eq_append {m : Memory} {sel : Word} (bs : List Byte) (off : Word) {n : Nat} (hn : bs.length ≤ n)
    (h : ∀ k < bs.length, m.inBounds sel (off + BitVec.ofNat 16 k) = true
      ∧ bs[k]? = some (m.peek sel (off + BitVec.ofNat 16 k))) :
    m.fetch sel off n = bs ++ m.fetch sel (off + BitVec.ofNat 16 bs.length) (n - bs.length) := by
  induction bs generalizing off n with
  | nil => simp
  | cons b bs ih =>
    obtain ⟨n, rfl⟩ : ∃ j, n = j + 1 := ⟨n - 1, by simp at hn; omega⟩
    have hnext (k : Nat) : off + 1 + BitVec.ofNat 16 k = off + BitVec.ofNat 16 (k + 1) := by
      rw [Nat.add_comm k, BitVec.ofNat_add, BitVec.add_assoc]
      rfl
    obtain ⟨hb, hv⟩ := h 0 (by simp)
    have htail := ih (off + 1) (by simpa using hn) fun k hk => by
      rw [hnext]
      exact h (k + 1) (by simpa using hk)
    rw [BitVec.add_zero] at hb hv
    rw [Memory.fetch, if_pos hb, htail, hnext, Option.some.inj hv]
    simp

theorem Memory.fetch_length_le (m : Memory) (sel off : Word) (n : Nat) : (m.fetch sel off n).length ≤ n := by
  induction n generalizing off with
  | zero => exact Nat.le_refl 0
  | succ n ih =>
    rw [Memory.fetch]
    split
    · exact Nat.succ_le_succ (ih _)
    · exact Nat.zero_le _

theorem Memory.fetch_of_out {m : Memory} {sel off : Word} (h : m.inBounds sel off = false) (n : Nat) :
    m.fetch sel off n = [] := by
  cases n with
  | zero => rfl
  | succ n => rw [Memory.fetch, if_neg (by simp [h])]

section
variable {s : State} {bs : List Byte}

theorem standsAt_take (h : standsAt s bs) (n : Nat) : standsAt s (bs.take n) := fun k hk => by
  rw [List.length_take] at hk
  rw [List.getElem?_take_of_lt (by omega)]
  exact h k (by omega)

theorem fetched_length_le (s : State) : s.fetched.length ≤ Config.maxInsnLen := Memory.fetch_length_le ..

theorem fetched_of_standsAt (h : standsAt s bs) (hn : bs.length ≤ Config.maxInsnLen) : ∃ more, s.fetched = bs ++ more :=
  ⟨_, Memory.fetch_eq_append bs s.ip hn h⟩

theorem fetched_of_standsAt_out (h : standsAt s bs) (hn : bs.length ≤ Config.maxInsnLen)
    (ho : s.mem.inBounds s.sreg.cs (s.ip + BitVec.ofNat 16 bs.length) = false) : s.fetched = bs := by
  rw [State.fetched, Memory.fetch_eq_append bs s.ip hn h, Memory.fetch_of_out ho, List.append_nil]

theorem fetched_of_standsAt_full (h : standsAt s bs) (hn : bs.length = Config.maxInsnLen) : s.fetched = bs := by
  rw [State.fetched, Memory.fetch_eq_append bs s.ip hn.le h, hn, Nat.sub_self, Memory.fetch, List.append_nil]

/-! ## The step, by what was decoded -/

variable (hh : s.halted = false)
include hh

theorem step_of_decode {i : Instr} {len : Nat} (h : decode s.fetched = .ok (i, len)) :
    step s = exec i (s.setIp (s.ip + BitVec.ofNat 16 len)) := by
  simp only [step, tick, hh, h]
  cases exec i (s.setIp (s.ip + BitVec.ofNat 16 len)) <;> rfl

theorem step_of_invalid (h : decode s.fetched = .error .invalid) : step s = .fault (.invalidOpcode s.sreg.cs s.ip) := by
  simp [step, tick, hh, h]

theorem step_of_truncated (h : decode s.fetched = .error .truncated) :
    step s = .fault (.addressing s.sreg.cs (s.ip + BitVec.ofNat 16 s.fetched.length)) := by
  simp [step, tick, hh, h]

/-- Bytes that match no admitted instruction are an invalid opcode, whatever stands behind them, also where the decoder
does not come to the deciding byte because it is past the fifteenth (30_encoding R127, R140). -/
theorem step_invalid_of_standsAt (h : standsAt s bs) (hd : decodeFrom {} bs = .error .invalid) :
    step s = .fault (.invalidOpcode s.sreg.cs s.ip) := by
  refine step_of_invalid hh ?_
  by_cases hn : bs.length ≤ Config.maxInsnLen
  · obtain ⟨more, hf⟩ := fetched_of_standsAt h hn
    refine decode_of_invalid ?_
    rw [List.take_of_length_le (fetched_length_le s), hf]
    exact (follows_decodeFrom rfl).invalid hd more
  · have hlen : (bs.take Config.maxInsnLen).length = Config.maxInsnLen := by rw [List.length_take]; omega
    have hf := fetched_of_standsAt_full (standsAt_take h _) hlen
    have htake : s.fetched.take Config.maxInsnLen = bs.take Config.maxInsnLen := by rw [hf, List.take_take, Nat.min_self]
    cases hd' : decodeFrom {} (bs.take Config.maxInsnLen) with
    | ok q =>
      obtain ⟨j, -, hj⟩ := (follows_decodeFrom rfl).ok (a := q.1) (rest := q.2) hd' (bs.drop Config.maxInsnLen)
      rw [List.take_append_drop, hd] at hj
      cases hj
    | error e =>
      cases e with
      | invalid => exact decode_of_invalid (htake ▸ hd')
      | truncated => rw [decode_of_truncated (htake ▸ hd'), if_pos (hf ▸ hlen.ge)]

/-- Bytes that are still needed, fifteen of them, are an invalid opcode (30_encoding R127). -/
theorem step_invalid_of_fifteen (h : standsAt s bs) (hn : bs.length = Config.maxInsnLen)
    (hd : decodeFrom {} bs = .error .truncated) : step s = .fault (.invalidOpcode s.sreg.cs s.ip) := by
  refine step_of_invalid hh ?_
  have hf := fetched_of_standsAt_full h hn
  rw [hf, decode_of_truncated (by rwa [List.take_of_length_le hn.le]), if_pos hn.ge]

/-- Where bytes are still needed and the next is out of bounds, that one is the fault (60_exceptions R464). -/
theorem step_missing_of_out (h : standsAt s bs) (hn : bs.length < Config.maxInsnLen)
    (ho : s.mem.inBounds s.sreg.cs (s.ip + BitVec.ofNat 16 bs.length) = false) (hd : decodeFrom {} bs = .error .truncated) :
    step s = .fault (.addressing s.sreg.cs (s.ip + BitVec.ofNat 16 bs.length)) := by
  have hf := fetched_of_standsAt_out h hn.le ho
  have hdec : decode s.fetched = .error .truncated := by
    rw [hf, decode_of_truncated (by rwa [List.take_of_length_le hn.le]), if_neg (by omega)]
  rw [step_of_truncated hh hdec, hf]

end

/-- Settles O55: `tick` on what `decode` answers, and on a halted core. -/
theorem stepRunsDecoded : Obligations.StepRunsDecoded :=
  ⟨fun _ _ _ hh h => step_of_decode hh h, fun s hs => by simp [step, tick, hs]⟩

/-- Settles O56: the bytes that stand at `CS:IP` are fetched first, and they decode to the instruction. -/
theorem stepRunsEncoded : Obligations.StepRunsEncoded := by
  intro s i hh hwf hstands
  have hlen : (encode i).length ≤ Config.maxInsnLen := encode_length i ▸ of_decide_eq_true (Bool.and_eq_true_iff.1 hwf).2
  obtain ⟨more, hf⟩ := fetched_of_standsAt hstands hlen
  exact step_of_decode hh (hf ▸ decode_encode hwf more)

/-! ## Bytes that match no admitted instruction -/

theorem exists_prefixes_of_subset {pre : List Byte} (h : pre ⊆ prefixBytes) : ∃ ps : List Pfx, pre = ps.map Pfx.code := by
  have hcode : ∀ b ∈ prefixBytes, ∃ p : Pfx, p.code = b := by
    simp only [prefixBytes, List.forall_mem_cons]
    exact ⟨⟨.seg .es, rfl⟩, ⟨.seg .cs, rfl⟩, ⟨.seg .ss, rfl⟩, ⟨.seg .ds, rfl⟩, ⟨.lock, rfl⟩, ⟨.rep .repne, rfl⟩,
      ⟨.rep .rep, rfl⟩, nofun⟩
  induction pre with
  | nil => exact ⟨[], rfl⟩
  | cons b pre ih =>
    obtain ⟨p, rfl⟩ := hcode b (h (by simp))
    obtain ⟨ps, rfl⟩ := ih fun x hx => h (List.mem_cons_of_mem _ hx)
    exact ⟨p :: ps, rfl⟩

/-- After prefix bytes, what is invalid under every prefix record is invalid. -/
theorem decodeFrom_prefixes_invalid {bs : List Byte} (h : ∀ c, decodeFrom c bs = .error .invalid) (ps : List Pfx) :
    decodeFrom {} (ps.map Pfx.code ++ bs) = .error .invalid :=
  (decodeFrom_prefixes ps {} bs).trans (bind_of_error (h _))

theorem decodeFrom_invalid_of_opcode {op : Byte} {bs : List Byte} (hp : pfxOf op = none)
    (h : ∀ c, opcode c op bs = .error .invalid) (c : PfxCtx) : decodeFrom c (op :: bs) = .error .invalid := by
  by_cases hr : RepAllowed c op
  · rw [decodeFrom_opcode hp hr, h]
  · exact decodeFrom_invalid_of_repeat hp hr bs

theorem decodeFrom_invalidOpcode {op : Byte} (h : op ∈ invalidOpcodes) (c : PfxCtx) :
    decodeFrom c [op] = .error .invalid := by
  have hop : ∀ op ∈ invalidOpcodes, pfxOf op = none ∧ opcode {} op [] = .error .invalid := by decide
  obtain ⟨hp, hd⟩ := hop op h
  exact decodeFrom_invalid_of_opcode hp (fun c => ((decodes_opcode op).follows {} c).invalid hd []) c

theorem eq_ofNat_of_toNat {b : Byte} {n : Nat} (h : b.toNat = n) : b = BitVec.ofNat 8 n := by simp [← h]

/-- For each opcode of the table, its second bytes. -/
theorem opcode_invalidSecond {op x : Byte} (h : invalidSecond op x = true) :
    pfxOf op = none ∧ opcode {} op [x] = .error .invalid := by
  unfold invalidSecond at h
  split at h
  case h_27 => cases h
  all_goals
    rename_i hop
    obtain rfl := eq_ofNat_of_toNat hop
    refine ⟨rfl, ?_⟩
    clear hop
    decide +revert

theorem decodeFrom_invalidSecond {op x : Byte} (h : invalidSecond op x = true) (c : PfxCtx) :
    decodeFrom c [op, x] = .error .invalid := by
  obtain ⟨hp, hd⟩ := opcode_invalidSecond h
  exact decodeFrom_invalid_of_opcode hp (fun c => ((decodes_opcode op).follows {} c).invalid hd []) c

/-! ## Repeat prefixes -/

theorem rep_foldl_add_eq_none {c : PfxCtx} {ps : List Pfx} :
    (ps.foldl PfxCtx.add c).rep = none ↔ c.rep = none ∧ ∀ r, Pfx.rep r ∉ ps := by
  induction ps generalizing c with
  | nil => simp
  | cons p ps ih =>
    rw [List.foldl_cons, ih]
    cases p with
    | seg _ | lock => simp [PfxCtx.add]
    | rep r => exact ⟨fun h => (nomatch h.1), fun h => absurd (List.mem_cons_self) (h.2 r)⟩

theorem rep_mem_iff {ps : List Pfx} {r : Rep} : Pfx.rep r ∈ ps ↔ (Pfx.rep r).code ∈ ps.map Pfx.code := by
  refine ⟨List.mem_map_of_mem, fun h => ?_⟩
  obtain ⟨p, hp, hc⟩ := List.mem_map.1 h
  have hpr : some p = some (.rep r) := by rw [← pfxOf_code, ← pfxOf_code, hc]
  exact Option.some.inj hpr ▸ hp

theorem forall_rep_not_mem {ps : List Pfx} :
    (∀ r, Pfx.rep r ∉ ps) ↔ 0xF2 ∉ ps.map Pfx.code ∧ 0xF3 ∉ ps.map Pfx.code := by
  simp only [rep_mem_iff]
  exact ⟨fun h => ⟨h .repne, h .rep⟩, fun ⟨hne, hr⟩ r => by cases r <;> assumption⟩

theorem decodeFrom_repeat_invalid {ps : List Pfx} {b : Byte} (hrep : 0xF2 ∈ ps.map Pfx.code ∨ 0xF3 ∈ ps.map Pfx.code)
    (hb : b ∉ prefixBytes) (hs : b ∉ stringOpcodes) : decodeFrom {} (ps.map Pfx.code ++ [b]) = .error .invalid := by
  have hp : pfxOf b = none := by clear hs hrep; decide +revert
  have hstr : ¬isString b = true := by clear hp hb hrep; decide +revert
  have hr : ¬RepAllowed (ps.foldl PfxCtx.add {}) b := by
    rintro (hnone | hstr')
    · obtain ⟨hne, hr⟩ := forall_rep_not_mem.1 (rep_foldl_add_eq_none.1 hnone).2
      exact hrep.elim hne hr
    · exact hstr hstr'
  exact (decodeFrom_prefixes ps {} [b]).trans (bind_of_error (decodeFrom_invalid_of_repeat hp hr []))

/-- Prefix bytes, none of them a repeat, and a part of an instruction do not decide it. -/
theorem decodeFrom_prefixed_take {ps : List Pfx} {i : Instr} {k : Nat} (hrep : ∀ r, Pfx.rep r ∉ ps) (hwf : i.wfIn {} = true)
    (hk : k < ps.length + (encode i).length) :
    decodeFrom {} ((ps.map Pfx.code ++ encode i).take k) = .error .truncated := by
  rw [List.take_append, List.length_map]
  by_cases hlt : k ≤ ps.length
  · rw [Nat.sub_eq_zero_of_le hlt, List.take_zero, List.append_nil, ← List.map_take]
    exact decodeFrom_only_prefixes _ _
  · rw [List.take_of_length_le (by simp; omega)]
    have hnone : (ps.foldl PfxCtx.add {}).rep = none := rep_foldl_add_eq_none.2 ⟨rfl, hrep⟩
    exact (decodeFrom_prefixes ps {} _).trans (bind_of_error (decodeFrom_take_encode hwf hnone.symm (by omega)))

/-- Settles O57: an instruction is not decided before its last byte, and the bytes of each clause of the second part are
invalid at the deciding byte. -/
theorem fetchFaults : Obligations.FetchFaults := by
  intro s hh out missing invalid
  refine ⟨fun i k hwf hk hstands hout => ?_, fun pre hpre => ?_⟩
  · obtain ⟨hwf, hlen⟩ := Bool.and_eq_true_iff.1 hwf
    have hmax : (encode i).length ≤ Config.maxInsnLen := encode_length i ▸ of_decide_eq_true hlen
    have hl : ((encode i).take k).length = k := List.length_take_of_le hk.le
    have hfault := step_missing_of_out hh hstands (by omega) (by rwa [hl]) (decodeFrom_take_encode hwf rfl hk)
    rwa [hl] at hfault
  · obtain ⟨ps, rfl⟩ := exists_prefixes_of_subset hpre
    refine ⟨fun b hb hstands => ?_, fun b x hx hstands => ?_, fun b hrep hb hs hstands => ?_, fun hlen hstands => ?_,
      fun i hne hr hwf hlong => ?_⟩
    · exact step_invalid_of_standsAt hh hstands (decodeFrom_prefixes_invalid (decodeFrom_invalidOpcode hb) ps)
    · exact step_invalid_of_standsAt hh hstands (decodeFrom_prefixes_invalid (decodeFrom_invalidSecond hx) ps)
    · exact step_invalid_of_standsAt hh hstands (decodeFrom_repeat_invalid hrep hb hs)
    · exact step_invalid_of_fifteen hh hstands hlen (decodeFrom_only_prefixes ps {})
    · rw [List.length_map] at hlong
      have htaken (k : Nat) (hk : k ≤ 15) := decodeFrom_prefixed_take (i := i) (k := k) (forall_rep_not_mem.2 ⟨hne, hr⟩)
        (Bool.and_eq_true_iff.1 hwf).1 (by omega)
      have hl (k : Nat) (hk : k ≤ 15) : ((ps.map Pfx.code ++ encode i).take k).length = k :=
        List.length_take_of_le (by simp; omega)
      refine ⟨fun hstands => step_invalid_of_fifteen hh hstands (hl 15 le_rfl) (htaken 15 le_rfl),
        fun k hk hstands hout => ?_⟩
      have hfault := step_missing_of_out hh hstands (by rw [hl k hk.le]; exact hk) (by rwa [hl k hk.le]) (htaken k hk.le)
      rwa [hl k hk.le] at hfault

/-! ## The prefix rows -/

theorem exec_movR16Rm16_mem {s : State} {r : R16} {m : Mem} (h : s.readable (s.sel m) (s.off m) 2 = true) :
    exec (.movR16Rm16 r (.mem m)) s = .next (s.setR16 r (memWord s (s.sel m) (s.off m))) := by
  have hget : s.get16 (.mem (s.sel m) (s.off m)) = .ok (memWord s (s.sel m) (s.off m)) := State.get16_ok h
  change finish (s.get16 (.mem (s.sel m) (s.off m)) >>= fun v => s.put16 (.reg r) v) = _
  rw [hget]
  rfl

/-- With `CX` = 0 a repetition runs no iteration (45_string_flag_misc R317). -/
theorem repeatString_of_cx_zero {s : State} (h : s.gpr.cx = 0) (r : Rep) (compares : Bool)
    (iter : State → Except Fault State) : s.repeatString (some r) compares iter = .ok s := by
  rw [State.repeatString, h]
  rfl

/-- Settles O27: a prefixed instruction is its body (LOG 1), and the bodies named run as their operands say. -/
theorem prefixes : Obligations.Prefixes := by
  have wrapped (i : Instr) (s : State) : execPrefixed i s = exec i s :=
    (execPrefixed_eq_exec_body i s).trans (exec_eq_exec_body i s).symm
  refine ⟨fun i s => ?_, fun s r e => ?_, fun s g => ⟨rfl, fun hcx => ⟨?_, ?_⟩⟩⟩
  · have h := wrapped i s
    exact ⟨h, h, h, h, h, h, h⟩
  · have mov (g : SReg) (h : s.readable (s.seg g) (s.eaOff e) 2 = true) :
        execPrefixed (.movR16Rm16 r (.mem ⟨g, e⟩)) s = .next (s.setR16 r (memWord s (s.seg g) (s.eaOff e))) :=
      (wrapped _ s).trans (exec_movR16Rm16_mem (m := ⟨g, e⟩) h)
    simp only [List.forall_mem_cons]
    exact ⟨mov .es, mov .cs, mov .ss, mov .ds, nofun⟩
  · exact congrArg finish (repeatString_of_cx_zero hcx _ _ _)
  · exact congrArg finish (repeatString_of_cx_zero hcx _ _ _)

end Sys2Proof.Machine

/-! PROOFS of the statements about data movement (40_data_movement): what a move, an exchange and a far load answer when
their operands are in bounds; effective addresses as sums modulo 65536; the halves of a word as numbers and bits. -/

namespace Sys2Proof.Machine

open Sys2Proof.Spec

/-! ## Moves (40_data_movement R171, R172) -/

theorem State.move8_ok {s : State} {dst src : Loc R8} (hd : dst.ok s 1) (hs : src.ok s 1) :
    s.move8 dst src = .ok (with8 s dst (val8 s src)) := by
  rw [State.move8, State.get8_ok hs]
  exact State.put8_ok _ hd

theorem State.move16_ok {s : State} {dst src : Loc R16} (hd : dst.ok s 2) (hs : src.ok s 2) :
    s.move16 dst src = .ok (with16 s dst (val16 s src)) := by
  rw [State.move16, State.get16_ok hs]
  exact State.put16_ok _ hd

theorem State.loadSeg_ok {s : State} (g : SReg) {src : Loc R16} (hs : src.ok s 2) :
    s.loadSeg g src = .ok (s.setSeg g (val16 s src)) := by
  rw [State.loadSeg, State.get16_ok hs]
  rfl

/-- Settles O9: what is written is put, moved or loaded, and each of these answers when its operands are in bounds. -/
theorem moveData : Obligations.MoveData := by
  intro s
  refine ⟨fun d r v h => ?bytes, fun d r v h => ?words, fun g off h => ?byteAt, fun g off h => ?wordAt,
    fun _ _ => rfl, fun _ _ => rfl⟩
  case bytes =>
    have hd : (s.loc d).ok s 1 := loc_ok h
    have put (b : Byte) : finish (s.put8 (s.loc d) b) = .next (with8 s (s.loc d) b) :=
      congrArg finish (State.put8_ok b hd)
    exact ⟨put _, congrArg finish (State.move8_ok (dst := .reg r) trivial hd), put v⟩
  case words =>
    have hd : (s.loc d).ok s 2 := loc_ok h
    have put (w : Word) : finish (s.put16 (s.loc d) w) = .next (with16 s (s.loc d) w) :=
      congrArg finish (State.put16_ok w hd)
    have load (g : SReg) : finish (s.loadSeg g (s.loc d)) = .next (s.setSeg g (val16 s (s.loc d))) :=
      congrArg finish (State.loadSeg_ok g hd)
    exact ⟨put _, congrArg finish (State.move16_ok (dst := .reg r) trivial hd), put v, put _, put _, put _, put _,
      load .es, load .ss, load .ds⟩
  case byteAt =>
    have hm : (Loc.mem (s.seg g) off : Loc R8).ok s 1 := h
    exact ⟨congrArg finish (State.move8_ok (dst := .reg .al) trivial hm), congrArg finish (State.put8_ok _ hm)⟩
  case wordAt =>
    have hm : (Loc.mem (s.seg g) off : Loc R16).ok s 2 := h
    exact ⟨congrArg finish (State.move16_ok (dst := .reg .ax) trivial hm), congrArg finish (State.put16_ok _ hm)⟩

/-! ## Exchanges (40_data_movement R173, R174) -/

theorem State.xchg8_ok {s : State} {x y : Loc R8} (hx : x.ok s 1) (hy : y.ok s 1) :
    s.xchg8 x y = .ok (with8 (with8 s x (val8 s y)) y (val8 s x)) := by
  simp only [State.xchg8, State.get8_ok hx, State.get8_ok hy, State.put8_ok _ hx, Bind.bind, Except.bind]
  exact State.put8_ok _ (Loc.ok_congr hy (with8_segs s x _))

theorem State.xchg16_ok {s : State} {x y : Loc R16} (hx : x.ok s 2) (hy : y.ok s 2) :
    s.xchg16 x y = .ok (with16 (with16 s x (val16 s y)) y (val16 s x)) := by
  simp only [State.xchg16, State.get16_ok hx, State.get16_ok hy, State.put16_ok _ hx, Bind.bind, Except.bind]
  exact State.put16_ok _ (Loc.ok_congr hy (with16_segs s x _))

/-- Settles O10: an exchange answers both writes when its operands are in bounds, and registers always are. -/
theorem exchange : Obligations.Exchange := by
  intro s
  have withAx (r : R16) :
      finish (s.xchg16 (.reg .ax) (.reg r)) = .next ((s.setR16 .ax (s.r16 r)).setR16 r (s.r16 .ax)) :=
    congrArg finish (State.xchg16_ok (x := .reg .ax) (y := .reg r) trivial trivial)
  exact ⟨fun r _ h => congrArg finish (State.xchg8_ok (x := .reg r) trivial (loc_ok h)),
    fun r _ h => congrArg finish (State.xchg16_ok (x := .reg r) trivial (loc_ok h)),
    withAx .cx, withAx .dx, withAx .bx, withAx .sp, withAx .bp, withAx .si, withAx .di, rfl⟩

/-! ## Effective addresses (30_encoding R130, 40_data_movement R175) -/

/-- An integer narrowed to a word counts modulo 65536 only. -/
theorem ofInt_emod_65536 (x : Int) : BitVec.ofInt 16 (x % 65536) = BitVec.ofInt 16 x := by
  apply BitVec.eq_of_toInt_eq
  rw [BitVec.toInt_ofInt, BitVec.toInt_ofInt]
  exact Int.emod_bmod x 65536

theorem sext16_eq_ofInt (d : Byte) : sext16 d = BitVec.ofInt 16 d.toInt := rfl

/-- Settles O11: each form's wrapping sum is the integer sum narrowed. -/
theorem loadEffectiveAddress : Obligations.LoadEffectiveAddress := by
  intro s r g e sums off
  have hbase (b : Base) : s.baseSum b = BitVec.ofInt 16 (sums b) := by
    cases b <;> simp [sums, State.baseSum, BitVec.ofInt_add]
  have hoff : s.eaOff e = BitVec.ofInt 16 off := by
    cases e with
    | plain b => exact hbase b
    | disp8 b d => rw [State.eaOff, hbase, sext16_eq_ofInt, ← BitVec.ofInt_add]
    | disp16 b d => simp [State.eaOff, hbase, off, BitVec.ofInt_add]
    | direct d => simp [State.eaOff, off]
  rw [ofInt_emod_65536, ← hoff]
  rfl

/-! ## Far pointers and translation (40_data_movement R176 to R178) -/

theorem State.loadFar_ok {s : State} (r : R16) (g : SReg) {m : Mem} (h : s.readable (s.sel m) (s.off m) 4 = true) :
    s.loadFar r g m = .ok ((s.setR16 r (memWord s (s.sel m) (s.off m))).setSeg g
      (memWord s (s.sel m) (s.off m + 2))) := by
  rw [State.loadFar, State.readPair_ok h]
  rfl

theorem State.xlatFrom_ok {s : State} {g : SReg}
    (h : s.readable (s.seg g) (s.gpr.bx + (s.r8 .al).setWidth 16) 1 = true) :
    s.xlatFrom g = .ok (s.setR8 .al (s.mem.peek (s.seg g) (s.gpr.bx + (s.r8 .al).setWidth 16))) := by
  rw [State.xlatFrom, State.read8_ok h]
  rfl

/-- Settles O12: the two words are read through the old selector, and `XLAT`'s offset is the sum narrowed. -/
theorem loadFarTranslate : Obligations.LoadFarTranslate := by
  refine fun s => ⟨fun r m h => ⟨congrArg finish (State.loadFar_ok r .ds h), congrArg finish (State.loadFar_ok r .es h)⟩,
    fun g => ?_⟩
  rw [← xlat_offset]
  exact fun h => congrArg finish (State.xlatFrom_ok h)

/-! ## Halves of a word (10_state R32, 40_data_movement R179 to R182) -/

theorem toNat_lowByte (w : Word) : (lowByte w).toNat = w.toNat % 256 := by simp [lowByte]

theorem append_eq_ofNat (h l : Byte) : (h ++ l : Word) = BitVec.ofNat 16 (256 * h.toNat + l.toNat) := by
  have hh := h.isLt
  have hl := l.isLt
  apply BitVec.eq_of_toNat_eq
  rw [BitVec.toNat_append, ← Nat.shiftLeft_add_eq_or_of_lt hl, Nat.shiftLeft_eq, BitVec.toNat_ofNat]
  omega

theorem getLsbD_highByte (w : Word) {k : Nat} (hk : k < 8) : (highByte w).getLsbD k = w.getLsbD (8 + k) := by
  simp [highByte, hk]

/-- The image's low byte above `AL` (40_data_movement R179). -/
theorem image_lowByte_append (f : Flags) (w : Word) :
    lowByte f.image ++ lowByte w = BitVec.ofNat 16 (256 * (imageOf f % 256) + w.toNat % 256) := by
  rw [append_eq_ofNat, toNat_lowByte, toNat_lowByte, f.image_toNat]

/-- `SAHF` reads the image's low byte from `AH` (40_data_movement R180). -/
theorem withLowByte_highByte (f : Flags) (w : Word) :
    f.withLowByte (highByte w) = { f with
      SF := w.getLsbD 15, ZF := w.getLsbD 14, AF := w.getLsbD 12, PF := w.getLsbD 10, CF := w.getLsbD 8 } := by
  simp only [Flags.withLowByte, getLsbD_highByte, Nat.reduceLT, Nat.reduceAdd]

/-- Sign extension of the low byte, by range (40_data_movement R181). -/
theorem sext16_lowByte (w : Word) :
    sext16 (lowByte w) = if w.toNat % 256 < 128 then BitVec.ofNat 16 (w.toNat % 256)
      else BitVec.ofNat 16 (0xFF00 + w.toNat % 256) := by
  have hmsb : (lowByte w).msb = decide (128 ≤ w.toNat % 256) := by rw [BitVec.msb_eq_decide, toNat_lowByte]
  apply BitVec.eq_of_toNat_eq
  rw [sext16, BitVec.toNat_signExtend, BitVec.toNat_setWidth, toNat_lowByte, hmsb]
  by_cases h : w.toNat % 256 < 128
  · rw [if_pos h, BitVec.toNat_ofNat, decide_eq_false (by omega)]
    rfl
  · rw [if_neg h, BitVec.toNat_ofNat, decide_eq_true (by omega), if_pos rfl]
    omega

/-- Settles O13: the halves of `AX` as bytes, the image's low byte and the sign as the rules give them. -/
theorem flagsByteSignExtend : Obligations.FlagsByteSignExtend := by
  intro s
  refine ⟨?lahf, ?sahf, ?cbw, ?cwd⟩
  case lahf =>
    rw [← image_lowByte_append]
    rfl
  case sahf =>
    rw [← withLowByte_highByte]
    rfl
  case cbw =>
    rw [← sext16_lowByte]
    rfl
  case cwd =>
    have hsign : (s.gpr.ax.msb = true) = (0x8000 ≤ s.gpr.ax.toNat) := by
      rw [BitVec.msb_eq_decide, decide_eq_true_eq]
    simp only [← hsign]
    rfl

end Sys2Proof.Machine

/-! PROOFS of the statements about arithmetic (41_arithmetic): the nine forms from one two-operand operation; the flags of a
step by one and of a negation; products in double width; quotients rounded toward zero and the divide error. -/

namespace Sys2Proof.Machine

open Sys2Proof.Spec

/-! ## The nine forms (41_arithmetic R190) -/

/-- Nine rows of the opcode table that run one two-operand operation, each on the destination and the source it names. -/
def RunsAlu (op : AluOp) (rm8R8 : Rm8 → R8 → Instr) (rm16R16 : Rm16 → R16 → Instr) (r8Rm8 : R8 → Rm8 → Instr)
    (r16Rm16 : R16 → Rm16 → Instr) (alImm8 : Byte → Instr) (axImm16 : Word → Instr) (rm8Imm8 : Rm8 → Byte → Instr)
    (rm16Imm16 : Rm16 → Word → Instr) (rm16Imm8 : Rm16 → Byte → Instr) : Prop :=
  ∀ s : State,
    (∀ d r, exec (rm8R8 d r) s = finish (s.alu8 op (s.loc d) (s.r8 r)))
    ∧ (∀ d r, exec (rm16R16 d r) s = finish (s.alu16 op (s.loc d) (s.r16 r)))
    ∧ (∀ r x, exec (r8Rm8 r x) s = finish (s.aluFrom8 op r x))
    ∧ (∀ r x, exec (r16Rm16 r x) s = finish (s.aluFrom16 op r x))
    ∧ (∀ v, exec (alImm8 v) s = finish (s.alu8 op (.reg .al) v))
    ∧ (∀ v, exec (axImm16 v) s = finish (s.alu16 op (.reg .ax) v))
    ∧ (∀ d v, exec (rm8Imm8 d v) s = finish (s.alu8 op (s.loc d) v))
    ∧ (∀ d v, exec (rm16Imm16 d v) s = finish (s.alu16 op (s.loc d) v))
    ∧ (∀ d v, exec (rm16Imm8 d v) s = finish (s.alu16 op (s.loc d) (v.signExtend 16)))

section
variable {op : AluOp} {rm8R8 : Rm8 → R8 → Instr} {rm16R16 : Rm16 → R16 → Instr} {r8Rm8 : R8 → Rm8 → Instr}
  {r16Rm16 : R16 → Rm16 → Instr} {alImm8 : Byte → Instr} {axImm16 : Word → Instr} {rm8Imm8 : Rm8 → Byte → Instr}
  {rm16Imm16 : Rm16 → Word → Instr} {rm16Imm8 : Rm16 → Byte → Instr}

/-- The nine forms give what the operation gives on a destination in bounds, for a byte and for a word. -/
theorem RunsAlu.nineForms {byte : State → Loc R8 → Byte → State} {word : State → Loc R16 → Word → State}
    (hrun : RunsAlu op rm8R8 rm16R16 r8Rm8 r16Rm16 alImm8 axImm16 rm8Imm8 rm16Imm16 rm16Imm8)
    (hbyte : ∀ {s : State} {l : Loc R8} (v : Byte), l.ok s 1 → s.alu8 op l v = .ok (byte s l v))
    (hword : ∀ {s : State} {l : Loc R16} (v : Word), l.ok s 2 → s.alu16 op l v = .ok (word s l v)) :
    NineForms byte word rm8R8 rm16R16 r8Rm8 r16Rm16 alImm8 axImm16 rm8Imm8 rm16Imm16 rm16Imm8 := by
  intro s
  obtain ⟨toRm8, toRm16, toR8, toR16, toAl, toAx, imm8, imm16, immSigned⟩ := hrun s
  have byteAt {l : Loc R8} (v : Byte) (h : l.ok s 1) : finish (s.alu8 op l v) = .next (byte s l v) :=
    congrArg finish (hbyte v h)
  have wordAt {l : Loc R16} (v : Word) (h : l.ok s 2) : finish (s.alu16 op l v) = .next (word s l v) :=
    congrArg finish (hword v h)
  refine ⟨fun d r h => ?_, fun d r h => ?_, fun r x h => ?_, fun r x h => ?_, fun v => ?_, fun v => ?_, fun d v h => ?_,
    fun d v h => ?_, fun d v h => ?_⟩
  · rw [toRm8, byteAt _ (loc_ok h)]
  · rw [toRm16, wordAt _ (loc_ok h)]
  · rw [toR8, State.aluFrom8_ok h, byteAt (l := .reg r) _ trivial]
  · rw [toR16, State.aluFrom16_ok h, wordAt (l := .reg r) _ trivial]
  · rw [toAl, byteAt (l := .reg .al) _ trivial]
  · rw [toAx, wordAt (l := .reg .ax) _ trivial]
  · rw [imm8, byteAt _ (loc_ok h)]
  · rw [imm16, wordAt _ (loc_ok h)]
  · rw [immSigned, wordAt _ (loc_ok h)]

/-- The nine forms of an operation that writes its result, from the result and the flags it gives with each carry. -/
theorem RunsAlu.nineForms_of_writes {res8 : Bool → Byte → Byte → Byte} {res16 : Bool → Word → Word → Word}
    {fl8 : Bool → Byte → Byte → StatusFlags} {fl16 : Bool → Word → Word → StatusFlags}
    (hrun : RunsAlu op rm8R8 rm16R16 r8Rm8 r16Rm16 alImm8 axImm16 rm8Imm8 rm16Imm16 rm16Imm8)
    (hw : op.writes = true) (h8 : ∀ (a b : Byte) c, op.eval a b c = (res8 c a b, fl8 c a b))
    (h16 : ∀ (a b : Word) c, op.eval a b c = (res16 c a b, fl16 c a b)) :
    NineForms (fun s => op8 (res8 s.flags.CF) (fl8 s.flags.CF) s) (fun s => op16 (res16 s.flags.CF) (fl16 s.flags.CF) s)
      rm8R8 rm16R16 r8Rm8 r16Rm16 alImm8 axImm16 rm8Imm8 rm16Imm16 rm16Imm8 :=
  hrun.nineForms (fun v h => by rw [State.alu8_ok v h, if_pos hw, h8]; rfl)
    (fun v h => by rw [State.alu16_ok v h, if_pos hw, h16]; rfl)

/-- The nine forms of an operation that discards its result, from the flags it gives. -/
theorem RunsAlu.nineForms_of_discards {fl8 : Byte → Byte → StatusFlags} {fl16 : Word → Word → StatusFlags}
    (hrun : RunsAlu op rm8R8 rm16R16 r8Rm8 r16Rm16 alImm8 axImm16 rm8Imm8 rm16Imm16 rm16Imm8)
    (hw : op.writes = false) (h8 : ∀ (a b : Byte) c, (op.eval a b c).2 = fl8 a b)
    (h16 : ∀ (a b : Word) c, (op.eval a b c).2 = fl16 a b) :
    NineForms (flagsOnly8 fl8) (flagsOnly16 fl16)
      rm8R8 rm16R16 r8Rm8 r16Rm16 alImm8 axImm16 rm8Imm8 rm16Imm16 rm16Imm8 := by
  have hdiscard : ¬op.writes = true := by simp [hw]
  exact hrun.nineForms (fun v h => by rw [State.alu8_ok v h, if_neg hdiscard, h8]; rfl)
    (fun v h => by rw [State.alu16_ok v h, if_neg hdiscard, h16]; rfl)

end

/-! ## Addition and subtraction without a carry in (10_state R43, R44) -/

theorem addFlags_noCarry8 (a b : Byte) : addFlags a b false = (a + b, sumFlags a b false) := by
  rw [addFlags_eq8]; simp

theorem addFlags_noCarry16 (a b : Word) : addFlags a b false = (a + b, sumFlags a b false) := by
  rw [addFlags_eq16]; simp

theorem subFlags_noBorrow8 (a b : Byte) : subFlags a b false = (a - b, diffFlags a b false) := by
  rw [subFlags_eq8]; simp

theorem subFlags_noBorrow16 (a b : Word) : subFlags a b false = (a - b, diffFlags a b false) := by
  rw [subFlags_eq16]; simp

theorem runsAlu_add : RunsAlu .add .addRm8R8 .addRm16R16 .addR8Rm8 .addR16Rm16 .addAlImm8 .addAxImm16
    .addRm8Imm8 .addRm16Imm16 .addRm16Imm8 :=
  fun _ => ⟨fun _ _ => rfl, fun _ _ => rfl, fun _ _ => rfl, fun _ _ => rfl, fun _ => rfl, fun _ => rfl, fun _ _ => rfl,
    fun _ _ => rfl, fun _ _ => rfl⟩

theorem runsAlu_adc : RunsAlu .adc .adcRm8R8 .adcRm16R16 .adcR8Rm8 .adcR16Rm16 .adcAlImm8 .adcAxImm16
    .adcRm8Imm8 .adcRm16Imm16 .adcRm16Imm8 :=
  fun _ => ⟨fun _ _ => rfl, fun _ _ => rfl, fun _ _ => rfl, fun _ _ => rfl, fun _ => rfl, fun _ => rfl, fun _ _ => rfl,
    fun _ _ => rfl, fun _ _ => rfl⟩

/-- Settles O1: both operations write, and the range forms of their flags are `addFlags_eq8` and `addFlags_eq16`. -/
theorem addAdc : Obligations.AddAdc :=
  ⟨runsAlu_add.nineForms_of_writes (res8 := fun _ => (· + ·)) (res16 := fun _ => (· + ·))
      (fl8 := fun _ => (sumFlags · · false)) (fl16 := fun _ => (sumFlags · · false)) rfl
      (fun a b _ => addFlags_noCarry8 a b) (fun a b _ => addFlags_noCarry16 a b),
    runsAlu_adc.nineForms_of_writes (res8 := fun c a b => a + b + BitVec.ofNat 8 c.toNat)
      (res16 := fun c a b => a + b + BitVec.ofNat 16 c.toNat) (fl8 := fun c => (sumFlags · · c))
      (fl16 := fun c => (sumFlags · · c)) rfl
      addFlags_eq8 addFlags_eq16⟩

theorem runsAlu_sub : RunsAlu .sub .subRm8R8 .subRm16R16 .subR8Rm8 .subR16Rm16 .subAlImm8 .subAxImm16
    .subRm8Imm8 .subRm16Imm16 .subRm16Imm8 :=
  fun _ => ⟨fun _ _ => rfl, fun _ _ => rfl, fun _ _ => rfl, fun _ _ => rfl, fun _ => rfl, fun _ => rfl, fun _ _ => rfl,
    fun _ _ => rfl, fun _ _ => rfl⟩

theorem runsAlu_sbb : RunsAlu .sbb .sbbRm8R8 .sbbRm16R16 .sbbR8Rm8 .sbbR16Rm16 .sbbAlImm8 .sbbAxImm16
    .sbbRm8Imm8 .sbbRm16Imm16 .sbbRm16Imm8 :=
  fun _ => ⟨fun _ _ => rfl, fun _ _ => rfl, fun _ _ => rfl, fun _ _ => rfl, fun _ => rfl, fun _ => rfl, fun _ _ => rfl,
    fun _ _ => rfl, fun _ _ => rfl⟩

theorem runsAlu_cmp : RunsAlu .cmp .cmpRm8R8 .cmpRm16R16 .cmpR8Rm8 .cmpR16Rm16 .cmpAlImm8 .cmpAxImm16
    .cmpRm8Imm8 .cmpRm16Imm16 .cmpRm16Imm8 :=
  fun _ => ⟨fun _ _ => rfl, fun _ _ => rfl, fun _ _ => rfl, fun _ _ => rfl, fun _ => rfl, fun _ => rfl, fun _ _ => rfl,
    fun _ _ => rfl, fun _ _ => rfl⟩

/-- Settles O2: as O1, by the borrows; `CMP` discards the difference. -/
theorem subSbbCmp : Obligations.SubSbbCmp :=
  ⟨runsAlu_sub.nineForms_of_writes (res8 := fun _ => (· - ·)) (res16 := fun _ => (· - ·))
      (fl8 := fun _ => (diffFlags · · false)) (fl16 := fun _ => (diffFlags · · false)) rfl
      (fun a b _ => subFlags_noBorrow8 a b) (fun a b _ => subFlags_noBorrow16 a b),
    runsAlu_sbb.nineForms_of_writes (res8 := fun c a b => a - b - BitVec.ofNat 8 c.toNat)
      (res16 := fun c a b => a - b - BitVec.ofNat 16 c.toNat) (fl8 := fun c => (diffFlags · · c))
      (fl16 := fun c => (diffFlags · · c)) rfl
      subFlags_eq8 subFlags_eq16,
    runsAlu_cmp.nineForms_of_discards rfl (fun a b _ => congrArg Prod.snd (subFlags_noBorrow8 a b))
      (fun a b _ => congrArg Prod.snd (subFlags_noBorrow16 a b))⟩

/-! ## One operand (41_arithmetic R196 to R198, 42_logic R224) -/

theorem State.inc8_ok {s : State} {l : Loc R8} (h : l.ok s 1) :
    s.inc8 l = .ok { with8 s l (val8 s l + 1) with
      flags := s.flags.withStatusKeepCF (sumFlags (val8 s l) 1 false) } := by
  rw [State.inc8, State.modify8_ok _ _ h, addFlags_noCarry8]

theorem State.inc16_ok {s : State} {l : Loc R16} (h : l.ok s 2) :
    s.inc16 l = .ok { with16 s l (val16 s l + 1) with
      flags := s.flags.withStatusKeepCF (sumFlags (val16 s l) 1 false) } := by
  rw [State.inc16, State.modify16_ok _ _ h, addFlags_noCarry16]

theorem State.dec8_ok {s : State} {l : Loc R8} (h : l.ok s 1) :
    s.dec8 l = .ok { with8 s l (val8 s l - 1) with
      flags := s.flags.withStatusKeepCF (diffFlags (val8 s l) 1 false) } := by
  rw [State.dec8, State.modify8_ok _ _ h, subFlags_noBorrow8]

theorem State.dec16_ok {s : State} {l : Loc R16} (h : l.ok s 2) :
    s.dec16 l = .ok { with16 s l (val16 s l - 1) with
      flags := s.flags.withStatusKeepCF (diffFlags (val16 s l) 1 false) } := by
  rw [State.dec16, State.modify16_ok _ _ h, subFlags_noBorrow16]

theorem State.neg8_ok {s : State} {l : Loc R8} (h : l.ok s 1) :
    s.neg8 l = .ok { with8 s l (-val8 s l) with
      flags := s.flags.withStatus (diffFlags 0 (val8 s l) false) } := by
  rw [State.neg8, State.modify8_ok _ _ h, subFlags_noBorrow8, zero_sub]

theorem State.neg16_ok {s : State} {l : Loc R16} (h : l.ok s 2) :
    s.neg16 l = .ok { with16 s l (-val16 s l) with
      flags := s.flags.withStatus (diffFlags 0 (val16 s l) false) } := by
  rw [State.neg16, State.modify16_ok _ _ h, subFlags_noBorrow16, zero_sub]

theorem State.not8_ok {s : State} {l : Loc R8} (h : l.ok s 1) : s.not8 l = .ok (with8 s l (~~~val8 s l)) := by
  rw [State.not8, State.modify8_ok _ _ h, ← with8_flags s l (~~~val8 s l)]

theorem State.not16_ok {s : State} {l : Loc R16} (h : l.ok s 2) : s.not16 l = .ok (with16 s l (~~~val16 s l)) := by
  rw [State.not16, State.modify16_ok _ _ h, ← with16_flags s l (~~~val16 s l)]

/-- Settles O4: each form is one operation on one operand in bounds, and a register always is. -/
theorem incDecNegNot : Obligations.IncDecNegNot := by
  refine fun s => ⟨fun r => ?registers, fun d h => ?bytes, fun d h => ?words⟩
  case registers =>
    exact ⟨congrArg finish (State.inc16_ok (l := .reg r) trivial), congrArg finish (State.dec16_ok (l := .reg r) trivial)⟩
  case bytes =>
    have hd : (s.loc d).ok s 1 := loc_ok h
    exact ⟨congrArg finish (State.inc8_ok hd), congrArg finish (State.dec8_ok hd), congrArg finish (State.neg8_ok hd),
      congrArg finish (State.not8_ok hd)⟩
  case words =>
    have hd : (s.loc d).ok s 2 := loc_ok h
    exact ⟨congrArg finish (State.inc16_ok hd), congrArg finish (State.dec16_ok hd), congrArg finish (State.neg16_ok hd),
      congrArg finish (State.not16_ok hd)⟩

/-! ## Products in double width (41_arithmetic R199 to R201) -/

section
variable {n w : Nat}

theorem ofNat_mul_toNat (a b : BitVec n) :
    BitVec.ofNat w (a.toNat * b.toNat) = a.setWidth w * b.setWidth w := by
  rw [BitVec.ofNat_mul, BitVec.ofNat_toNat, BitVec.ofNat_toNat]

theorem ofInt_mul_toInt (a b : BitVec n) :
    BitVec.ofInt w (a.toInt * b.toInt) = a.signExtend w * b.signExtend w :=
  BitVec.ofInt_mul a.toInt b.toInt

/-- An unsigned product reaches `2^n` when its high half is not 0. -/
theorem two_pow_le_mul_iff (a b : BitVec n) (hw : n + n ≤ w) :
    2 ^ n ≤ a.toNat * b.toNat ↔ (a.setWidth w * b.setWidth w).extractLsb' n n ≠ 0 := by
  have hlt : a.toNat * b.toNat < 2 ^ n * 2 ^ n := Nat.mul_lt_mul'' a.isLt b.isLt
  have hfits : a.toNat * b.toNat < 2 ^ w :=
    Nat.lt_of_lt_of_le (by rwa [← Nat.pow_add] at hlt) (Nat.pow_le_pow_right (by decide) hw)
  have hhigh : ((a.setWidth w * b.setWidth w).extractLsb' n n).toNat = a.toNat * b.toNat / 2 ^ n := by
    rw [← ofNat_mul_toNat, BitVec.extractLsb'_toNat, BitVec.toNat_ofNat, Nat.mod_eq_of_lt hfits,
      Nat.shiftRight_eq_div_pow, Nat.mod_eq_of_lt (Nat.div_lt_of_lt_mul hlt)]
  have hzero : (0 : BitVec n).toNat = 0 := BitVec.toNat_zero
  rw [ne_eq, ← BitVec.toNat_inj, hhigh, hzero, Nat.div_eq_zero_iff_lt (Nat.two_pow_pos n), Nat.not_lt]

theorem extractLsb'_ofInt (x : Int) (hw : n ≤ w) : (BitVec.ofInt w x).extractLsb' 0 n = BitVec.ofInt n x := by
  rw [← BitVec.setWidth_eq_extractLsb' hw, ← BitVec.signExtend_eq_setWidth_of_le _ hw, BitVec.signExtend]
  apply BitVec.eq_of_toInt_eq
  rw [BitVec.toInt_ofInt, BitVec.toInt_ofInt, BitVec.toInt_ofInt, Int.bmod_bmod_of_dvd]
  exact Nat.pow_dvd_pow 2 hw

/-- The product of two signed numbers of `n` bits is one of `2n` bits. -/
theorem toInt_signExtend_mul (a b : BitVec n) (hn : 0 < n) (hw : n + n ≤ w) :
    (a.signExtend w * b.signExtend w).toInt = a.toInt * b.toInt := by
  have habs (x : BitVec n) : |x.toInt| ≤ 2 ^ (n - 1) :=
    abs_le.2 ⟨BitVec.le_toInt x, le_of_lt BitVec.toInt_lt⟩
  have hprod : |a.toInt * b.toInt| ≤ 2 ^ (n - 1) * 2 ^ (n - 1) := by
    rw [abs_mul]
    exact mul_le_mul (habs a) (habs b) (abs_nonneg _) (by positivity)
  have hpow : (2 : Int) ^ (n - 1) * 2 ^ (n - 1) < 2 ^ (w - 1) := by
    rw [← pow_add]
    exact pow_lt_pow_right₀ (by decide) (by omega)
  obtain ⟨hlow, hhigh⟩ := abs_le.1 hprod
  rw [← ofInt_mul_toInt]
  exact BitVec.toInt_ofInt_eq_self (by omega) (by omega) (by omega)

/-- Out of the signed range of `n` bits: changed by being narrowed to them. -/
theorem signedOver_eq (x : Int) (hn : 0 < n) : signedOver n x = decide ((BitVec.ofInt n x).toInt ≠ x) := by
  rw [signedOver, decide_eq_decide]
  constructor
  · intro hover heq
    have hlow := BitVec.le_toInt (BitVec.ofInt n x)
    have hhigh := BitVec.toInt_lt (x := BitVec.ofInt n x)
    omega
  · intro hne
    by_contra hin
    exact hne (BitVec.toInt_ofInt_eq_self hn (by omega) (by omega))

/-- A signed product is out of range when it is more than the extension of its low half. -/
theorem signedOver_mul (a b : BitVec n) (hn : 0 < n) (hw : n + n ≤ w) :
    signedOver n (a.toInt * b.toInt) =
      decide (a.signExtend w * b.signExtend w ≠ ((a.signExtend w * b.signExtend w).extractLsb' 0 n).signExtend w) := by
  have hnarrow : (((a.signExtend w * b.signExtend w).extractLsb' 0 n).signExtend w).toInt
      = (BitVec.ofInt n (a.toInt * b.toInt)).toInt := by
    rw [BitVec.toInt_signExtend_of_le (by omega), ← ofInt_mul_toInt, extractLsb'_ofInt _ (by omega)]
  rw [signedOver_eq _ hn, ← hnarrow, ← toInt_signExtend_mul a b hn hw, decide_eq_decide, ne_comm, ne_eq, BitVec.toInt_inj]

end

theorem State.mul8_ok {s : State} {l : Loc R8} (h : l.ok s 1) :
    let p : Word := (s.r8 .al).setWidth 16 * (val8 s l).setWidth 16
    s.mul8 l = .ok ((s.setR16 .ax p).setStatus
      (mulFlags (decide (highByte p ≠ 0)) (ufOf .MUL (s.r8 .al) (val8 s l)))) := by
  simp only [State.mul8, State.get8_ok h, Bind.bind, Except.bind, ofNat_mul_toNat,
    two_pow_le_mul_iff (w := 16) _ _ (by decide : 8 + 8 ≤ 16)]
  rfl

theorem State.mul16_ok {s : State} {l : Loc R16} (h : l.ok s 2) :
    let p : BitVec 32 := s.gpr.ax.setWidth 32 * (val16 s l).setWidth 32
    s.mul16 l = .ok ((s.setDxAx p).setStatus
      (mulFlags (decide (p.extractLsb' 16 16 ≠ 0)) (ufOf .MUL s.gpr.ax (val16 s l)))) := by
  simp only [State.mul16, State.get16_ok h, Bind.bind, Except.bind, ofNat_mul_toNat,
    two_pow_le_mul_iff (w := 32) _ _ (by decide : 16 + 16 ≤ 32)]
  rfl

theorem State.imul8_ok {s : State} {l : Loc R8} (h : l.ok s 1) :
    let q : Word := (s.r8 .al).signExtend 16 * (val8 s l).signExtend 16
    s.imul8 l = .ok ((s.setR16 .ax q).setStatus
      (mulFlags (decide (q ≠ (lowByte q).signExtend 16)) (ufOf .IMUL (s.r8 .al) (val8 s l)))) := by
  simp only [State.imul8, State.get8_ok h, Bind.bind, Except.bind, ofInt_mul_toInt,
    signedOver_mul (w := 16) _ _ (by decide : 0 < 8) (by decide : 8 + 8 ≤ 16)]
  rfl

theorem State.imul16_ok {s : State} {l : Loc R16} (h : l.ok s 2) :
    let q : BitVec 32 := s.gpr.ax.signExtend 32 * (val16 s l).signExtend 32
    s.imul16 l = .ok ((s.setDxAx q).setStatus
      (mulFlags (decide (q ≠ (q.extractLsb' 0 16).signExtend 32)) (ufOf .IMUL s.gpr.ax (val16 s l)))) := by
  simp only [State.imul16, State.get16_ok h, Bind.bind, Except.bind, ofInt_mul_toInt,
    signedOver_mul (w := 32) _ _ (by decide : 0 < 16) (by decide : 16 + 16 ≤ 32)]
  rfl

theorem State.imul3_ok {s : State} (r : R16) {l : Loc R16} (imm : Word) (h : l.ok s 2) :
    let q : BitVec 32 := (val16 s l).signExtend 32 * imm.signExtend 32
    s.imul3 r l imm = .ok ((s.setR16 r (q.extractLsb' 0 16)).setStatus
      (mulFlags (decide (q ≠ (q.extractLsb' 0 16).signExtend 32)) (ufOf .IMUL (val16 s l) imm))) := by
  have hlow : BitVec.ofInt 16 ((val16 s l).toInt * imm.toInt)
      = ((val16 s l).signExtend 32 * imm.signExtend 32).extractLsb' 0 16 := by
    rw [← ofInt_mul_toInt, extractLsb'_ofInt _ (by decide)]
  simp only [State.imul3, State.get16_ok h, Bind.bind, Except.bind, hlow,
    signedOver_mul (w := 32) _ _ (by decide : 0 < 16) (by decide : 16 + 16 ≤ 32)]
  rfl

/-- Settles O5: each form is one product of an operand in bounds, in the words of the statement. -/
theorem mulImul : Obligations.MulImul := by
  refine fun s => ⟨fun d h => ?bytes, fun d h => ?words, fun r x h => ?three⟩
  case bytes => exact ⟨congrArg finish (State.mul8_ok (loc_ok h)), congrArg finish (State.imul8_ok (loc_ok h))⟩
  case words => exact ⟨congrArg finish (State.mul16_ok (loc_ok h)), congrArg finish (State.imul16_ok (loc_ok h))⟩
  case three =>
    exact ⟨fun imm => congrArg finish (State.imul3_ok r imm (loc_ok h)),
      fun imm => congrArg finish (State.imul3_ok r (imm.signExtend 16) (loc_ok h))⟩

/-! ## Quotients and the divide error (41_arithmetic R202, R203, R205) -/

/-- A quotient of a double-width dividend needs more than `n` bits when the divisor is not above the high half, as a divisor
of 0 never is. -/
theorem quotient_over_iff {n : Nat} (hi lo d : BitVec n) :
    (d = 0 ∨ 2 ^ n - 1 < (hi ++ lo).toNat / d.toNat) ↔ d.toNat ≤ hi.toNat := by
  have hhigh : hi.toNat = (hi ++ lo).toNat / 2 ^ n := by
    rw [← Nat.shiftRight_eq_div_pow, BitVec.toNat_append, Nat.shiftRight_or_distrib, Nat.shiftLeft_shiftRight,
      Nat.shiftRight_eq_div_pow, Nat.div_eq_of_lt lo.isLt, Nat.or_zero]
  by_cases hd : d = 0
  · simp [hd]
  · have hpos : 0 < d.toNat := Nat.pos_of_ne_zero fun h0 => hd (BitVec.eq_of_toNat_eq (by simpa using h0))
    have hN : 0 < 2 ^ n := Nat.two_pow_pos n
    rw [hhigh, Nat.le_div_iff_mul_le hN, Nat.mul_comm, ← Nat.le_div_iff_mul_le hpos, or_iff_right hd]
    omega

theorem signedOver_eq_outside (n : Nat) (x : Int) : signedOver n x = outside n x := by
  rw [signedOver, outside, decide_eq_decide]
  omega

/-- Quotient and remainder rounded toward zero are unique. -/
theorem eq_tdiv_tmod_of_divides {x y q r : Int} (h : Divides x y q r) : y ≠ 0 ∧ x.tdiv y = q ∧ x.tmod y = r := by
  obtain ⟨hx, hlt, hsign⟩ := h
  have hy : y ≠ 0 := by omega
  have hsum : r + y * q = x := by rw [hx, mul_comm, add_comm]
  refine ⟨hy, ?_⟩
  rcases le_total 0 x with h0 | h0
  · have hr : 0 ≤ r := hsign.elim (fun hr => hr.ge) fun hs => Int.sign_nonneg_iff.1 (hs ▸ Int.sign_nonneg_iff.2 h0)
    exact (Int.tdiv_tmod_unique h0 hy).2 ⟨hsum, hr, by omega⟩
  · have hr : r ≤ 0 := hsign.elim (fun hr => hr.le) fun hs => Int.sign_nonpos_iff.1 (hs ▸ Int.sign_nonpos_iff.2 h0)
    exact (Int.tdiv_tmod_unique' h0 hy).2 ⟨hsum, by omega, hr⟩

/-- Both halves of `AX` written. -/
theorem State.setR8_al_setR8_ah (s : State) (lo hi : Byte) : (s.setR8 .al lo).setR8 .ah hi = s.setR16 .ax (hi ++ lo) := by
  have hlow : lowByte ((s.setR8 .al lo).r16 .ax) = lo := lowByte_append _ lo
  rw [State.setR8, parentOf, hlow]
  rfl

/-- A byte division that succeeds: `AH:AL` is remainder and quotient, the status flags are what `UF` gives of the dividend `u`
and the divisor `v`. -/
def State.divided8 (s : State) (m : UfMnemonic) (q r : Byte) (u v : Int) : State :=
  (s.setR16 .ax (r ++ q)).setStatus (Config.UF m 8 u v false)

/-- A word division that succeeds, in `DX` and `AX`. -/
def State.divided16 (s : State) (m : UfMnemonic) (q r : Word) (u v : Int) : State :=
  ((s.setR16 .ax q).setR16 .dx r).setStatus (Config.UF m 16 u v false)

theorem State.div8_ok {s : State} {l : Loc R8} (h : l.ok s 1) :
    let x := s.gpr.ax
    let b := val8 s l
    s.div8 l = .ok (if b.toNat ≤ (highByte x).toNat then s.hostInterrupt 0
      else s.divided8 .DIV (BitVec.ofNat 8 (x.toNat / b.toNat)) (BitVec.ofNat 8 (x.toNat % b.toNat)) x.toNat b.toNat) := by
  have hover := quotient_over_iff (highByte s.gpr.ax) (lowByte s.gpr.ax) (val8 s l)
  rw [byte_halves] at hover
  simp only [State.div8, State.get8_ok h, Bind.bind, Except.bind, hover, State.setR8_al_setR8_ah]
  split <;> rfl

theorem State.div16_ok {s : State} {l : Loc R16} (h : l.ok s 2) :
    let x := s.gpr.dx ++ s.gpr.ax
    let b := val16 s l
    s.div16 l = .ok (if b.toNat ≤ s.gpr.dx.toNat then s.hostInterrupt 0
      else s.divided16 .DIV (BitVec.ofNat 16 (x.toNat / b.toNat)) (BitVec.ofNat 16 (x.toNat % b.toNat)) x.toNat
        b.toNat) := by
  simp only [State.div16, State.get16_ok h, Bind.bind, Except.bind, quotient_over_iff s.gpr.dx s.gpr.ax (val16 s l)]
  split <;> rfl

theorem State.idiv8_ok {s : State} {l : Loc R8} (h : l.ok s 1) :
    let x := s.gpr.ax.toInt
    let b := val8 s l
    s.idiv8 l = .ok (if b = 0 ∨ outside 8 (x.tdiv b.toInt) = true then s.hostInterrupt 0
      else s.divided8 .IDIV (BitVec.ofInt 8 (x.tdiv b.toInt)) (BitVec.ofInt 8 (x.tmod b.toInt)) x b.toInt) := by
  simp only [State.idiv8, State.get8_ok h, Bind.bind, Except.bind, signedOver_eq_outside, State.setR8_al_setR8_ah,
    Int.tmod_def, Int.mul_comm]
  split <;> rfl

theorem State.idiv16_ok {s : State} {l : Loc R16} (h : l.ok s 2) :
    let x := (s.gpr.dx ++ s.gpr.ax).toInt
    let b := val16 s l
    s.idiv16 l = .ok (if b = 0 ∨ outside 16 (x.tdiv b.toInt) = true then s.hostInterrupt 0
      else s.divided16 .IDIV (BitVec.ofInt 16 (x.tdiv b.toInt)) (BitVec.ofInt 16 (x.tmod b.toInt)) x b.toInt) := by
  simp only [State.idiv16, State.get16_ok h, Bind.bind, Except.bind, signedOver_eq_outside, Int.tmod_def, Int.mul_comm]
  split <;> rfl

/-- The clauses of an unsigned division: the divisor `b` above the dividend's high half, or not. -/
theorem unsignedDivision_outcomes {o : Except Fault State} {b hi : Nat} {done error : State}
    (h : o = .ok (if b ≤ hi then error else done)) :
    (hi < b → finish o = .next done) ∧ (b ≤ hi → finish o = .next error) := by
  subst h
  exact ⟨fun hlt => by rw [if_neg (Nat.not_le.2 hlt)]; rfl, fun hle => by rw [if_pos hle]; rfl⟩

/-- The clauses of a signed division: a quotient in range, a divisor of 0, a quotient out of range. -/
theorem signedDivision_outcomes {n : Nat} {b : BitVec n} {x : Int} {o : Except Fault State} {error : State}
    (done : Int → Int → State)
    (h : o = .ok (if b = 0 ∨ outside n (x.tdiv b.toInt) = true then error
      else done (x.tdiv b.toInt) (x.tmod b.toInt))) :
    (∀ q r, Divides x b.toInt q r → outside n q = false → finish o = .next (done q r))
    ∧ (b = 0 → finish o = .next error)
    ∧ (∀ q r, Divides x b.toInt q r → outside n q = true → finish o = .next error) := by
  subst h
  refine ⟨fun q r hqr hin => ?inRange, fun hzero => by rw [if_pos (.inl hzero)]; rfl, fun q r hqr hout => ?outOfRange⟩
  case inRange =>
    obtain ⟨hb, rfl, rfl⟩ := eq_tdiv_tmod_of_divides hqr
    have hne : b ≠ 0 := fun h0 => hb (by simp [h0])
    rw [if_neg (not_or.2 ⟨hne, Bool.eq_false_iff.1 hin⟩)]
    rfl
  case outOfRange =>
    obtain ⟨-, rfl, -⟩ := eq_tdiv_tmod_of_divides hqr
    rw [if_pos (.inr hout)]
    rfl

/-- Settles O6: the divisor against the dividend's high half decides `DIV`; the quotient and the remainder of `IDIV` are
unique. -/
theorem divIdiv : Obligations.DivIdiv := by
  refine fun s => ⟨fun d h => ?bytes, fun d h => ?words⟩
  case bytes =>
    obtain ⟨below, notBelow⟩ := unsignedDivision_outcomes (State.div8_ok (loc_ok h))
    exact ⟨below, notBelow, signedDivision_outcomes
      (fun q r => s.divided8 .IDIV (BitVec.ofInt 8 q) (BitVec.ofInt 8 r) s.gpr.ax.toInt (val8 s (s.loc d)).toInt)
      (State.idiv8_ok (loc_ok h))⟩
  case words =>
    obtain ⟨below, notBelow⟩ := unsignedDivision_outcomes (State.div16_ok (loc_ok h))
    exact ⟨below, notBelow, signedDivision_outcomes
      (fun q r => s.divided16 .IDIV (BitVec.ofInt 16 q) (BitVec.ofInt 16 r) (s.gpr.dx ++ s.gpr.ax).toInt
        (val16 s (s.loc d)).toInt)
      (State.idiv16_ok (loc_ok h))⟩

end Sys2Proof.Machine

/-! PROOFS of the statements about logic, shifts and rotates (42_logic): the bitwise operations in the nine forms of
arithmetic, `TEST` in its six; the six forms of a shift or rotate from one operation at the masked count. -/

namespace Sys2Proof.Machine

open Sys2Proof.Spec

/-! ## Bitwise operations (42_logic R221 to R223, R225) -/

theorem runsAlu_and : RunsAlu .and .andRm8R8 .andRm16R16 .andR8Rm8 .andR16Rm16 .andAlImm8 .andAxImm16
    .andRm8Imm8 .andRm16Imm16 .andRm16Imm8 :=
  fun _ => ⟨fun _ _ => rfl, fun _ _ => rfl, fun _ _ => rfl, fun _ _ => rfl, fun _ => rfl, fun _ => rfl, fun _ _ => rfl,
    fun _ _ => rfl, fun _ _ => rfl⟩

theorem runsAlu_or : RunsAlu .or .orRm8R8 .orRm16R16 .orR8Rm8 .orR16Rm16 .orAlImm8 .orAxImm16
    .orRm8Imm8 .orRm16Imm16 .orRm16Imm8 :=
  fun _ => ⟨fun _ _ => rfl, fun _ _ => rfl, fun _ _ => rfl, fun _ _ => rfl, fun _ => rfl, fun _ => rfl, fun _ _ => rfl,
    fun _ _ => rfl, fun _ _ => rfl⟩

theorem runsAlu_xor : RunsAlu .xor .xorRm8R8 .xorRm16R16 .xorR8Rm8 .xorR16Rm16 .xorAlImm8 .xorAxImm16
    .xorRm8Imm8 .xorRm16Imm16 .xorRm16Imm8 :=
  fun _ => ⟨fun _ _ => rfl, fun _ _ => rfl, fun _ _ => rfl, fun _ _ => rfl, fun _ => rfl, fun _ => rfl, fun _ _ => rfl,
    fun _ _ => rfl, fun _ _ => rfl⟩

/-- The nine forms of a logic operation, whose carry in plays no part. -/
theorem RunsAlu.nineForms_of_logic {op : AluOp} {rm8R8 : Rm8 → R8 → Instr} {rm16R16 : Rm16 → R16 → Instr}
    {r8Rm8 : R8 → Rm8 → Instr} {r16Rm16 : R16 → Rm16 → Instr} {alImm8 : Byte → Instr} {axImm16 : Word → Instr}
    {rm8Imm8 : Rm8 → Byte → Instr} {rm16Imm16 : Rm16 → Word → Instr} {rm16Imm8 : Rm16 → Byte → Instr}
    (hrun : RunsAlu op rm8R8 rm16R16 r8Rm8 r16Rm16 alImm8 axImm16 rm8Imm8 rm16Imm16 rm16Imm8) (hw : op.writes = true)
    (m : UfMnemonic) (bits : {n : Nat} → BitVec n → BitVec n → BitVec n)
    (heval : ∀ {n : Nat} (a b : BitVec n) c, op.eval a b c = logicFlags m a b (bits a b)) :
    NineForms (op8 bits fun a b => bitFlags m a b (bits a b)) (op16 bits fun a b => bitFlags m a b (bits a b))
      rm8R8 rm16R16 r8Rm8 r16Rm16 alImm8 axImm16 rm8Imm8 rm16Imm16 rm16Imm8 :=
  have hflags {n : Nat} (a b : BitVec n) (c : Bool) : op.eval a b c = (bits a b, bitFlags m a b (bits a b)) :=
    (heval a b c).trans (logicFlags_eq m a b (bits a b))
  hrun.nineForms_of_writes (res8 := fun _ => bits) (res16 := fun _ => bits)
    (fl8 := fun _ a b => bitFlags m a b (bits a b)) (fl16 := fun _ a b => bitFlags m a b (bits a b)) hw hflags hflags

theorem State.test8_ok {s : State} {l : Loc R8} (v : Byte) (h : l.ok s 1) :
    s.alu8 .test l v = .ok (flagsOnly8 (fun a b => bitFlags .TEST a b (a &&& b)) s l v) := by
  rw [State.alu8_ok v h, AluOp.eval, logicFlags_eq]
  rfl

theorem State.test16_ok {s : State} {l : Loc R16} (v : Word) (h : l.ok s 2) :
    s.alu16 .test l v = .ok (flagsOnly16 (fun a b => bitFlags .TEST a b (a &&& b)) s l v) := by
  rw [State.alu16_ok v h, AluOp.eval, logicFlags_eq]
  rfl

/-- Settles O3: the flags are `logicFlags_eq`'s; `TEST` discards the result of `AND`. -/
theorem andOrXorTest : Obligations.AndOrXorTest := by
  refine ⟨runsAlu_and.nineForms_of_logic rfl .AND (· &&& ·) fun _ _ _ => rfl,
    runsAlu_or.nineForms_of_logic rfl .OR (· ||| ·) fun _ _ _ => rfl,
    runsAlu_xor.nineForms_of_logic rfl .XOR (· ^^^ ·) fun _ _ _ => rfl, ?test⟩
  exact fun s => ⟨fun _ _ h => congrArg finish (State.test8_ok _ (loc_ok h)),
    fun _ _ h => congrArg finish (State.test16_ok _ (loc_ok h)),
    fun v => congrArg finish (State.test8_ok (l := .reg .al) v trivial),
    fun v => congrArg finish (State.test16_ok (l := .reg .ax) v trivial),
    fun _ v h => congrArg finish (State.test8_ok v (loc_ok h)),
    fun _ v h => congrArg finish (State.test16_ok v (loc_ok h))⟩

/-! ## The six forms of a shift or rotate (42_logic R226) -/

/-- Six rows of the opcode table that run one shift or rotate, by an immediate count, by 1 and by `CL`. -/
def RunsShift (op : ShiftOp) (rm8Imm8 : Rm8 → Byte → Instr) (rm16Imm8 : Rm16 → Byte → Instr) (rm8One : Rm8 → Instr)
    (rm16One : Rm16 → Instr) (rm8Cl : Rm8 → Instr) (rm16Cl : Rm16 → Instr) : Prop :=
  ∀ s : State,
    (∀ d v, exec (rm8Imm8 d v) s = finish (s.shift8 op d v))
    ∧ (∀ d v, exec (rm16Imm8 d v) s = finish (s.shift16 op d v))
    ∧ (∀ d, exec (rm8One d) s = finish (s.shift8 op d 1))
    ∧ (∀ d, exec (rm16One d) s = finish (s.shift16 op d 1))
    ∧ (∀ d, exec (rm8Cl d) s = finish (s.shift8 op d (s.r8 .cl)))
    ∧ (∀ d, exec (rm16Cl d) s = finish (s.shift16 op d (s.r8 .cl)))

theorem maskedCount_one : maskedCount 1 = 1 := rfl

/-- The mask keeps bits of `CL` only, so the count may be read from `CX`. -/
theorem maskedCount_cl (s : State) : maskedCount (s.r8 .cl) = s.gpr.cx.toNat % 32 := by
  have hcl : (s.r8 .cl).toNat = s.gpr.cx.toNat % 256 := toNat_lowByte s.gpr.cx
  rw [maskedCount_eq, hcl]
  omega

/-- A byte operand shifted or rotated by a masked count, as `ShiftForms` has it. -/
def shifted8 (eval : BitVec 8 → Nat → Flags → BitVec 8 × Flags) (s : State) (l : Loc R8) (c : Nat) : State :=
  if c = 0 then s else { with8 s l (eval (val8 s l) c s.flags).1 with flags := (eval (val8 s l) c s.flags).2 }

/-- A word operand likewise. -/
def shifted16 (eval : BitVec 16 → Nat → Flags → BitVec 16 × Flags) (s : State) (l : Loc R16) (c : Nat) : State :=
  if c = 0 then s else { with16 s l (eval (val16 s l) c s.flags).1 with flags := (eval (val16 s l) c s.flags).2 }

/-- With masked count 0 no `eval` is asked, so it matters at the other counts only. -/
theorem State.shift8_eq_shifted8 {s : State} {op : ShiftOp} {d : Rm8} {eval : BitVec 8 → Nat → Flags → BitVec 8 × Flags}
    (raw : Byte) (heval : ∀ a {c} f, 0 < c → op.eval a c f = eval a c f) (h : s.operandOk d 1 = true) :
    s.shift8 op d raw = .ok (shifted8 eval s (s.loc d) (maskedCount raw)) := by
  rw [State.shift8_ok raw h, shifted8]
  by_cases hc : maskedCount raw = 0
  · rw [if_pos hc, if_pos hc]
  · rw [if_neg hc, if_neg hc, heval _ _ (Nat.pos_of_ne_zero hc)]

theorem State.shift16_eq_shifted16 {s : State} {op : ShiftOp} {d : Rm16}
    {eval : BitVec 16 → Nat → Flags → BitVec 16 × Flags}
    (raw : Byte) (heval : ∀ a {c} f, 0 < c → op.eval a c f = eval a c f) (h : s.operandOk d 2 = true) :
    s.shift16 op d raw = .ok (shifted16 eval s (s.loc d) (maskedCount raw)) := by
  rw [State.shift16_ok raw h, shifted16]
  by_cases hc : maskedCount raw = 0
  · rw [if_pos hc, if_pos hc]
  · rw [if_neg hc, if_neg hc, heval _ _ (Nat.pos_of_ne_zero hc)]

/-- The six forms give what `eval` gives, if the operation agrees with it at every count but 0. -/
theorem RunsShift.shiftForms {op : ShiftOp} {eval : (n : Nat) → BitVec n → Nat → Flags → BitVec n × Flags}
    {rm8Imm8 : Rm8 → Byte → Instr} {rm16Imm8 : Rm16 → Byte → Instr} {rm8One : Rm8 → Instr} {rm16One : Rm16 → Instr}
    {rm8Cl : Rm8 → Instr} {rm16Cl : Rm16 → Instr}
    (hrun : RunsShift op rm8Imm8 rm16Imm8 rm8One rm16One rm8Cl rm16Cl)
    (heval : ∀ {n : Nat} (a : BitVec n) {c : Nat} (f : Flags), 1 < n → 0 < c → op.eval a c f = eval n a c f) :
    ShiftForms eval rm8Imm8 rm16Imm8 rm8One rm16One rm8Cl rm16Cl := by
  intro s
  obtain ⟨imm8, imm16, one8, one16, cl8, cl16⟩ := hrun s
  have byteAt {d : Rm8} {raw : Byte} {c : Nat} (hc : maskedCount raw = c) (h : s.operandOk d 1 = true) :
      finish (s.shift8 op d raw) = .next (shifted8 (eval 8) s (s.loc d) c) :=
    hc ▸ congrArg finish (State.shift8_eq_shifted8 raw (fun a _ f => heval a f (by decide)) h)
  have wordAt {d : Rm16} {raw : Byte} {c : Nat} (hc : maskedCount raw = c) (h : s.operandOk d 2 = true) :
      finish (s.shift16 op d raw) = .next (shifted16 (eval 16) s (s.loc d) c) :=
    hc ▸ congrArg finish (State.shift16_eq_shifted16 raw (fun a _ f => heval a f (by decide)) h)
  exact ⟨fun d v h => (imm8 d v).trans (byteAt (maskedCount_eq v) h),
    fun d v h => (imm16 d v).trans (wordAt (maskedCount_eq v) h),
    fun d h => (one8 d).trans (byteAt maskedCount_one h),
    fun d h => (one16 d).trans (wordAt maskedCount_one h),
    fun d h => (cl8 d).trans (byteAt (maskedCount_cl s) h),
    fun d h => (cl16 d).trans (wordAt (maskedCount_cl s) h)⟩

/-! ## Shifts (42_logic R227 to R229) -/

theorem runsShift_shl : RunsShift .shl .shlRm8Imm8 .shlRm16Imm8 .shlRm8One .shlRm16One .shlRm8Cl .shlRm16Cl :=
  fun _ => ⟨fun _ _ => rfl, fun _ _ => rfl, fun _ => rfl, fun _ => rfl, fun _ => rfl, fun _ => rfl⟩

theorem runsShift_shr : RunsShift .shr .shrRm8Imm8 .shrRm16Imm8 .shrRm8One .shrRm16One .shrRm8Cl .shrRm16Cl :=
  fun _ => ⟨fun _ _ => rfl, fun _ _ => rfl, fun _ => rfl, fun _ => rfl, fun _ => rfl, fun _ => rfl⟩

theorem runsShift_sar : RunsShift .sar .sarRm8Imm8 .sarRm16Imm8 .sarRm8One .sarRm16One .sarRm8Cl .sarRm16Cl :=
  fun _ => ⟨fun _ _ => rfl, fun _ _ => rfl, fun _ => rfl, fun _ => rfl, fun _ => rfl, fun _ => rfl⟩

/-- Settles O7: each shift is the bit-vector shift, its carry the last bit shifted out; `SAR` needs a count that is not 0. -/
theorem shifts : Obligations.Shifts :=
  ⟨runsShift_shl.shiftForms fun a c f _ _ => shlBy_eq a c f,
    runsShift_shr.shiftForms fun a c f _ _ => shrBy_eq a c f,
    runsShift_sar.shiftForms fun a c f hn hc => sarBy_eq a c f (Nat.zero_lt_of_lt hn) hc⟩

/-! ## Rotates (42_logic R230 to R233) -/

theorem runsShift_rol : RunsShift .rol .rolRm8Imm8 .rolRm16Imm8 .rolRm8One .rolRm16One .rolRm8Cl .rolRm16Cl :=
  fun _ => ⟨fun _ _ => rfl, fun _ _ => rfl, fun _ => rfl, fun _ => rfl, fun _ => rfl, fun _ => rfl⟩

theorem runsShift_ror : RunsShift .ror .rorRm8Imm8 .rorRm16Imm8 .rorRm8One .rorRm16One .rorRm8Cl .rorRm16Cl :=
  fun _ => ⟨fun _ _ => rfl, fun _ _ => rfl, fun _ => rfl, fun _ => rfl, fun _ => rfl, fun _ => rfl⟩

theorem runsShift_rcl : RunsShift .rcl .rclRm8Imm8 .rclRm16Imm8 .rclRm8One .rclRm16One .rclRm8Cl .rclRm16Cl :=
  fun _ => ⟨fun _ _ => rfl, fun _ _ => rfl, fun _ => rfl, fun _ => rfl, fun _ => rfl, fun _ => rfl⟩

theorem runsShift_rcr : RunsShift .rcr .rcrRm8Imm8 .rcrRm16Imm8 .rcrRm8One .rcrRm16One .rcrRm8Cl .rcrRm16Cl :=
  fun _ => ⟨fun _ _ => rfl, fun _ _ => rfl, fun _ => rfl, fun _ => rfl, fun _ => rfl, fun _ => rfl⟩

/-- Settles O8: each rotate is the bit-vector rotation, of `CF` above the operand for `RCL` and `RCR`; the bits below the top
that `OF` is computed from lie in the operand because it has more than one bit. -/
theorem rotates : Obligations.Rotates :=
  ⟨runsShift_rol.shiftForms fun a c f _ _ => rolBy_eq a c f,
    runsShift_ror.shiftForms fun a c f _ _ => rorBy_eq a c f,
    runsShift_rcl.shiftForms fun a c f hn _ => rclBy_eq a c f (Nat.zero_lt_of_lt hn),
    runsShift_rcr.shiftForms fun a c f hn _ => rcrBy_eq a c f hn⟩

end Sys2Proof.Machine

/-! PROOFS of the statements about control transfer (43_control_transfer): a jump sets `IP` to one target, the integer sum
narrowed; a call is its pushes, a return its pops, each from the law of one push and one pop; the hand-off to the host. -/

namespace Sys2Proof.Machine

open Sys2Proof.Spec

/-! ## Jumps (43_control_transfer R250 to R254) -/

/-- The wrapping sum is the integer sum narrowed (43_control_transfer R250). -/
theorem add_ofInt16 (ip : Word) (d : Int) : ip + BitVec.ofInt 16 d = BitVec.ofInt 16 (ip.toNat + d) := by
  simp [BitVec.ofInt_add]

theorem jumpTarget8 (ip : Word) (rel : Byte) : ip + sext16 rel = BitVec.ofInt 16 (ip.toNat + rel.toInt) :=
  add_ofInt16 ip rel.toInt

theorem jumpTarget16 (ip rel : Word) : ip + rel = BitVec.ofInt 16 (ip.toNat + rel.toInt) := by
  rw [← add_ofInt16, BitVec.ofInt_toInt]

theorem State.jumpTo_ok {s : State} {l : Loc R16} (h : l.ok s 2) : s.jumpTo l = .ok (s.setIp (val16 s l)) := by
  rw [State.jumpTo, State.get16_ok h]
  rfl

theorem State.jumpFar_ok {s : State} {m : Mem} (h : s.readable (s.sel m) (s.off m) 4 = true) :
    s.jumpFar m = .ok (s.setCsIp (memWord s (s.sel m) (s.off m + 2)) (memWord s (s.sel m) (s.off m))) := by
  rw [State.jumpFar, State.readPair_ok h]
  rfl

/-- Settles O14: the relative target is the sum narrowed, and the operands in bounds are read as they are. -/
theorem jumps : Obligations.Jumps := by
  refine fun s => ⟨fun rel => ?rel8, fun rel => ?rel16, fun d h => congrArg finish (State.jumpTo_ok (loc_ok h)),
    fun _ _ => rfl, fun m h => congrArg finish (State.jumpFar_ok h)⟩
  case rel8 =>
    rw [← jumpTarget8]
    rfl
  case rel16 =>
    rw [← jumpTarget16]
    rfl

/-! ## Conditions and loops (43_control_transfer R255 to R259) -/

/-- A jump taken or not writes `IP` alone. -/
theorem State.jumpIf_eq (s : State) (taken : Bool) (rel : Byte) :
    s.jumpIf taken rel = { s with ip := if taken then BitVec.ofInt 16 (s.ip.toNat + rel.toInt) else s.ip } := by
  rw [← jumpTarget8]
  cases taken <;> rfl

/-- The row of the opcode table that tests a condition. -/
def Cond.row : Cond → Byte → Instr
  | .o => .joRel8
  | .no => .jnoRel8
  | .b => .jbRel8
  | .nb => .jnbRel8
  | .z => .jzRel8
  | .nz => .jnzRel8
  | .be => .jbeRel8
  | .nbe => .jnbeRel8
  | .s => .jsRel8
  | .ns => .jnsRel8
  | .p => .jpRel8
  | .np => .jnpRel8
  | .l => .jlRel8
  | .nl => .jnlRel8
  | .le => .jleRel8
  | .nle => .jnleRel8

theorem exec_row (c : Cond) (rel : Byte) (s : State) : exec (c.row rel) s = .next (s.jumpIf (c.holds s.flags) rel) := by
  cases c <;> rfl

/-- Settles O15: each row jumps on the Boolean of its condition, which is the condition of the statement. -/
theorem conditionalJumps : Obligations.ConditionalJumps := by
  intro s rel f
  have tests (c : Cond) {P : Prop} (hP : c.holds f = true ↔ P) :
      (P → exec (c.row rel) s = .next { s with ip := BitVec.ofInt 16 (s.ip.toNat + rel.toInt) })
      ∧ (¬P → exec (c.row rel) s = .next s) := by
    rw [exec_row, State.jumpIf_eq, ← hP]
    exact ⟨fun h => by rw [if_pos h], fun h => by rw [if_neg h]⟩
  simp only [List.forall_mem_cons]
  refine ⟨tests .o ?_, tests .no ?_, tests .b ?_, tests .nb ?_, tests .z ?_, tests .nz ?_, tests .be ?_, tests .nbe ?_,
    tests .s ?_, tests .ns ?_, tests .p ?_, tests .np ?_, tests .l ?_, tests .nl ?_, tests .le ?_, tests .nle ?_,
    fun _ h => absurd h List.not_mem_nil⟩
  all_goals simp [Cond.holds]

/-- A loop counts down and jumps while the count that is left is not 0. -/
theorem State.loopIf_eq (s : State) (also : Bool) (rel : Byte) :
    s.loopIf also rel = { countDown s with
      ip := if decide (s.gpr.cx ≠ 1) && also then BitVec.ofInt 16 (s.ip.toNat + rel.toInt) else s.ip } := by
  have hleft : s.gpr.cx - 1 ≠ 0 ↔ s.gpr.cx ≠ 1 := sub_ne_zero
  rw [← decide_eq_decide.2 hleft]
  exact (countDown s).jumpIf_eq (decide (s.gpr.cx - 1 ≠ 0) && also) rel

/-- Settles O16: the three loops are one, and `JCXZ` is a jump on `CX`. -/
theorem loops : Obligations.Loops := by
  intro s rel target t
  have loop (also : Bool) {taken : Bool} (htaken : (decide (s.gpr.cx ≠ 1) && also) = taken) :
      finish (.ok (s.loopIf also rel)) = .next (t taken) := by
    rw [State.loopIf_eq, htaken]
    rfl
  refine ⟨loop true (Bool.and_true _), loop s.flags.ZF (by simp), loop (!s.flags.ZF) (by simp), ?jcxz⟩
  have hjump := s.jumpIf_eq (decide (s.gpr.cx = 0)) rel
  simp only [decide_eq_true_eq] at hjump
  exact congrArg (finish ∘ .ok) hjump

/-! ## Calls (43_control_transfer R260 to R263, R266) -/

theorem State.callNear_ok {s : State} (target : Word) (h : s.canPush 1 = true) :
    s.callNear target = .ok ((pushed s s.ip).setIp target) := by
  rw [State.callNear, State.push16_ok _ h]
  rfl

theorem State.callTo_ok {s : State} {l : Loc R16} (hl : l.ok s 2) (h : s.canPush 1 = true) :
    s.callTo l = .ok ((pushed s s.ip).setIp (val16 s l)) := by
  rw [State.callTo, State.get16_ok hl]
  exact State.callNear_ok _ h

theorem State.callFar_ok {s : State} {sel : Word} (off : Word) (hsel : sel ∉ s.params.hostFarSelectors)
    (h : s.canPush 2 = true) :
    s.callFar sel off = .ok ((pushed (pushed s s.sreg.cs) s.ip).setCsIp sel off) := by
  have hcs : s.push16 s.sreg.cs = .ok (pushed s s.sreg.cs) := State.push16_ok _ (canPush_mono h (by omega))
  have hip : (pushed s s.sreg.cs).push16 s.ip = .ok (pushed (pushed s s.sreg.cs) s.ip) :=
    State.push16_ok _ (canPush_pushed _ h)
  simp only [State.callFar, if_neg hsel, hcs, hip, Bind.bind, Except.bind]
  rfl

/-- A designated selector's call is the host's (43_control_transfer R266). -/
theorem State.callFar_host {s : State} {sel : Word} (off : Word) (hsel : sel ∈ s.params.hostFarSelectors) :
    s.callFar sel off = .ok (s.hostFarCall sel off) := if_pos hsel

theorem State.callFarAt_ok {s : State} {m : Mem} (h : s.readable (s.sel m) (s.off m) 4 = true) :
    s.callFarAt m = s.callFar (memWord s (s.sel m) (s.off m + 2)) (memWord s (s.sel m) (s.off m)) := by
  rw [State.callFarAt, State.readPair_ok h]
  rfl

/-- Settles O17: a near call is one push after its target is read; the far calls are one operation on the pointer, given
or read. -/
theorem calls : Obligations.Calls := by
  refine ⟨fun s hpush => ⟨fun rel => ?rel, fun d hd => congrArg finish (State.callTo_ok (loc_ok hd) hpush)⟩,
    fun s off sel => ⟨⟨fun hsel hpush => congrArg finish (State.callFar_ok off hsel hpush),
      fun hsel => congrArg finish (State.callFar_host off hsel)⟩, fun m hm hoff hsel => ?pointer⟩⟩
  case rel =>
    rw [← jumpTarget16]
    exact congrArg finish (State.callNear_ok _ hpush)
  case pointer =>
    have hcall : exec (.callM1616 m) s = finish (s.callFar sel off) := by
      rw [hoff, hsel]
      exact congrArg finish (State.callFarAt_ok hm)
    rw [hcall]
    exact ⟨fun hsel hpush => congrArg finish (State.callFar_ok off hsel hpush),
      fun hsel => congrArg finish (State.callFar_host off hsel)⟩

/-! ## Returns (43_control_transfer R264, R265, R270) -/

/-- The pop after `k` pops. -/
theorem State.pop16_dropped {s : State} {k : Nat} (h : s.canPopAt k = true) :
    (dropped s k).pop16 = .ok (stackTop s k, dropped s (k + 1)) := by
  rw [State.pop16_ok ((canPopAt_dropped s k 0).trans h), stackTop_dropped, dropped_dropped]
  rfl

theorem State.releaseArgs_zero (s : State) : s.releaseArgs 0 = s := by
  show s.setR16 .sp (s.gpr.sp + 0) = s
  rw [add_zero]
  rfl

theorem State.retNear_ok {s : State} (imm : Word) (h : s.canPop 1 = true) :
    s.retNear imm = .ok (((dropped s 1).setIp (stackTop s 0)).releaseArgs imm) := by
  rw [State.retNear, State.pop16_ok (State.canPopAt_of_canPop h (by omega))]
  rfl

theorem State.retFar_ok {s : State} (imm : Word) (h : s.canPop 2 = true) :
    s.retFar imm = .ok (((dropped s 2).setCsIp (stackTop s 1) (stackTop s 0)).releaseArgs imm) := by
  simp only [State.retFar, State.pop16_ok (State.canPopAt_of_canPop h (by omega : 0 < 2)),
    State.pop16_dropped (State.canPopAt_of_canPop h (by omega : 1 < 2)), Bind.bind, Except.bind]
  rfl

theorem State.interruptReturn_ok {s : State} (h : s.canPop 3 = true) :
    s.interruptReturn = .ok (((dropped s 3).setCsIp (stackTop s 1) (stackTop s 0)).setFlags (flagsOf (stackTop s 2))) := by
  simp only [State.interruptReturn, State.pop16_ok (State.canPopAt_of_canPop h (by omega : 0 < 3)),
    State.pop16_dropped (State.canPopAt_of_canPop h (by omega : 1 < 3)),
    State.pop16_dropped (State.canPopAt_of_canPop h (by omega : 2 < 3)), Bind.bind, Except.bind]
  rfl

/-- Settles O18: a return is its pops; without an immediate the adjustment of `SP` adds 0. -/
theorem returns : Obligations.Returns := by
  refine fun s => ⟨fun h => ⟨?ret, fun imm => congrArg finish (State.retNear_ok imm h)⟩,
    fun h => ⟨?retf, fun imm => congrArg finish (State.retFar_ok imm h)⟩,
    fun h => congrArg finish (State.interruptReturn_ok h)⟩
  case ret => exact congrArg finish ((State.retNear_ok 0 h).trans (congrArg _ (State.releaseArgs_zero _)))
  case retf => exact congrArg finish ((State.retFar_ok 0 h).trans (congrArg _ (State.releaseArgs_zero _)))

/-! ## Software interrupts (43_control_transfer R267 to R269, R271) -/

/-- `BOUND` hands over outside its bounds only. -/
theorem State.boundCheck_ok {s : State} {r : R16} {m : Mem} (h : s.readable (s.sel m) (s.off m) 4 = true) :
    s.boundCheck r m = .ok (if (memWord s (s.sel m) (s.off m)).toInt ≤ (s.r16 r).toInt
        ∧ (s.r16 r).toInt ≤ (memWord s (s.sel m) (s.off m + 2)).toInt then s else s.hostInterrupt 5) := by
  simp only [State.boundCheck, State.readPair_ok h, Bind.bind, Except.bind]
  split_ifs with hout hin hin
  · omega
  · rfl
  · rfl
  · omega

/-- Settles O19: the hand-off is the meaning of each, on `OF` for `INTO` and outside the bounds for `BOUND`. -/
theorem softwareInterrupts : Obligations.SoftwareInterrupts := by
  intro s
  have into : exec .into s = .next (if s.flags.OF then s.hostInterrupt 4 else s) := rfl
  refine ⟨fun _ => rfl, rfl, fun hof => by rw [into, if_pos hof], fun hof => by rw [into, hof]; rfl,
    fun r m h => ?bound⟩
  intro lo hi
  have bound : exec (.boundR16M1616 r m) s =
      .next (if lo ≤ (s.r16 r).toInt ∧ (s.r16 r).toInt ≤ hi then s else s.hostInterrupt 5) :=
    congrArg finish (State.boundCheck_ok h)
  rw [bound]
  exact ⟨fun hin => by rw [if_pos hin], fun hout => by rw [if_neg hout]⟩

end Sys2Proof.Machine

/-! PROOFS of the statements about the stack instructions (44_stack): a push and a pop each from the law of one; what a run
of pushes leaves on the stack; the seven pops of `POPA` on a state that keeps its bounds; the copies that `ENTER` makes. -/

namespace Sys2Proof.Machine

open Sys2Proof.Spec

/-- What follows an operation that answers runs on its answer. -/
theorem bind_of_ok {α β : Type} {o : Except Fault α} {x : α} (h : o = .ok x) (f : α → Except Fault β) :
    o >>= f = f x := by
  rw [h]
  rfl

/-- One word down, then `n` more. -/
theorem sub_words_succ (x : Word) (n : Nat) :
    x - BitVec.ofNat 16 (2 * (n + 1)) = x - 2 - BitVec.ofNat 16 (2 * n) := by
  rw [Nat.mul_succ, Nat.add_comm, ← sub_sub_ofNat]
  rfl

/-! ## Pushes (44_stack R290, R294) -/

theorem State.pushOperand_ok {s : State} {l : Loc R16} (hl : l.ok s 2) (h : s.canPush 1 = true) :
    s.pushOperand l = .ok (pushed s (val16 s l)) := by
  rw [State.pushOperand, State.get16_ok hl]
  exact State.push16_ok _ h

theorem Flags.image_eq_ofNat (f : Flags) : f.image = BitVec.ofNat 16 (imageOf f) := by
  rw [← f.image_toNat, BitVec.ofNat_toNat, BitVec.setWidth_eq]

/-- Settles O20: every form is one push of a value read before it. -/
theorem pushes : Obligations.Pushes := by
  intro s h
  have push (v : Word) : finish (s.push16 v) = .next (pushed s v) := congrArg finish (State.push16_ok v h)
  refine ⟨fun r => push (s.r16 r), fun d hd => congrArg finish (State.pushOperand_ok (loc_ok hd) h),
    push s.sreg.es, push s.sreg.cs, push s.sreg.ss, push s.sreg.ds, push, fun v => push (sext16 v), ?image⟩
  case image =>
    rw [← Flags.image_eq_ofNat]
    exact push s.flags.image

/-! ## Pops (44_stack R291, R295) -/

theorem State.popOperand_ok {s : State} {l : Loc R16} (hl : l.ok s 2) (h : s.canPopAt 0 = true) :
    s.popOperand l = .ok (with16 (dropped s 1) l (stackTop s 0)) := by
  rw [State.popOperand, State.pop16_ok h]
  exact State.put16_ok _ (Loc.ok_congr hl rfl)

theorem State.popSeg_ok {s : State} (g : SReg) (h : s.canPopAt 0 = true) :
    s.popSeg g = .ok ((dropped s 1).setSeg g (stackTop s 0)) := by
  rw [State.popSeg, State.pop16_ok h]
  rfl

theorem State.popFlags_ok {s : State} (h : s.canPopAt 0 = true) :
    s.popFlags = .ok ((dropped s 1).setFlags (flagsOf (stackTop s 0))) := by
  rw [State.popFlags, State.pop16_ok h]
  rfl

/-- Settles O21: every form is one pop, its word then written where the form says. -/
theorem pops : Obligations.Pops := by
  intro s hpop
  have h : s.canPopAt 0 = true := State.canPopAt_of_canPop hpop (by decide)
  exact ⟨fun r => congrArg finish (State.popOperand_ok (l := .reg r) trivial h),
    fun d hd => congrArg finish (State.popOperand_ok (loc_ok hd) h),
    congrArg finish (State.popSeg_ok .es h), congrArg finish (State.popSeg_ok .ss h),
    congrArg finish (State.popSeg_ok .ds h), congrArg finish (State.popFlags_ok h)⟩

/-! ## Room for several pushes (20_memory R100) -/

/-- Two runs of bytes in bounds, the second where the first ends, are one. -/
theorem readable_append {s : State} {sel off : Word} {j k : Nat} (hj : s.readable sel off j = true)
    (hk : s.readable sel (off + BitVec.ofNat 16 j) k = true) : s.readable sel off (j + k) = true := by
  simp only [State.readable, List.all_eq_true, List.mem_range] at *
  intro i hi
  by_cases h : i < j
  · exact hj i h
  · have := hk (i - j) (by omega)
    rwa [BitVec.add_assoc, ← BitVec.ofNat_add, Nat.add_sub_cancel' (by omega)] at this

/-- Room for a push, and then for `k` more. -/
theorem canPush_succ {s : State} {k : Nat} {v : Word} (h1 : s.canPush 1 = true) (hk : (pushed s v).canPush k = true) :
    s.canPush (k + 1) = true := by
  obtain ⟨hlow, htop⟩ := State.canPush_one h1
  simp only [State.canPush, Bool.and_eq_true, decide_eq_true_eq] at *
  obtain ⟨hle, hrest⟩ := hk
  have hsp : (pushed s v).gpr.sp.toNat = s.gpr.sp.toNat - 2 := by
    show (s.gpr.sp - 2).toNat = _
    bv_omega
  have hbelow : s.readable s.sreg.ss (s.gpr.sp - 2 - BitVec.ofNat 16 (2 * k)) (2 * k) = true :=
    (readable_congr (s := s) (t := pushed s v) rfl _ _ _).symm.trans hrest
  refine ⟨by omega, ?_⟩
  rw [sub_words_succ]
  refine readable_append (j := 2 * k) (k := 2) hbelow ?_
  rwa [BitVec.sub_add_cancel]

/-- What a push of a word that answers says. -/
theorem State.push16_inv {s t : State} {v : Word} (h : s.push16 v = .ok t) : s.canPush 1 = true ∧ t = pushed s v := by
  obtain ⟨hle, hr, -⟩ := State.pushN_inv h
  have hroom : s.canPush 1 = true := by
    simp only [State.canPush, Bool.and_eq_true, decide_eq_true_eq]
    exact ⟨hle, hr⟩
  rw [State.push16_ok v hroom] at h
  exact ⟨hroom, (Except.ok.inj h).symm⟩

/-- Words pushed one after another had room, all of them. -/
theorem State.pushList_inv {s t : State} {vs : List Word} (h : s.pushList vs = .ok t) :
    s.canPush vs.length = true ∧ t = vs.foldl pushed s := by
  induction vs generalizing s with
  | nil => exact ⟨rfl, (Except.ok.inj h).symm⟩
  | cons v vs ih =>
    cases hv : s.push16 v with
    | error f => simp [State.pushList, hv, Bind.bind, Except.bind] at h
    | ok u =>
      obtain ⟨hroom, rfl⟩ := State.push16_inv hv
      rw [State.pushList, hv] at h
      obtain ⟨hrest, ht⟩ := ih h
      exact ⟨canPush_succ hroom hrest, ht⟩

theorem canPush_foldl_pushed {s : State} (vs : List Word) {k : Nat} (h : s.canPush (k + vs.length) = true) :
    (vs.foldl pushed s).canPush k = true := by
  induction vs generalizing s with
  | nil => exact h
  | cons v vs ih => exact ih (canPush_pushed v h)

/-! ## What pushed words leave on the stack -/

theorem pushed_sp_add (s : State) (v : Word) (j : Nat) :
    (pushed s v).gpr.sp + BitVec.ofNat 16 (2 * (j + 1)) = s.gpr.sp + BitVec.ofNat 16 (2 * j) := by
  rw [Nat.mul_succ, Nat.add_comm, BitVec.ofNat_add, ← BitVec.add_assoc]
  exact congrArg (· + BitVec.ofNat 16 (2 * j)) (BitVec.sub_add_cancel s.gpr.sp 2)

theorem mem_pushed (s : State) (v : Word) :
    (pushed s v).mem = s.mem.pokeN s.sreg.ss (s.gpr.sp - 2) 2 v.toNat := (pokeN_two ..).symm

section
variable {s : State} (h : s.canPush 1 = true)
include h

theorem inBounds_of_canPush : ∀ k < 2, s.mem.inBounds s.sreg.ss (s.gpr.sp - 2 + BitVec.ofNat 16 k) = true :=
  (Memory.firstBad_eq_none _ _ _ _).1 ((s.readable_iff _ _ 2).1 (State.canPush_one h).2)

theorem wf_pushed (hw : s.mem.wf = true) (v : Word) : (pushed s v).mem.wf = true := by
  rw [mem_pushed]
  exact Memory.wf_pokeN hw _ (inBounds_of_canPush h)

/-- A word pushed is the stack's top (20_memory R104). -/
theorem stackTop_pushed_zero (hw : s.mem.wf = true) (v : Word) : stackTop (pushed s v) 0 = v := by
  have hback := Memory.peekN_pokeN hw v.toNat (by decide) (inBounds_of_canPush h)
  rw [← mem_pushed, Nat.mod_eq_of_lt (show v.toNat < 256 ^ 2 from v.isLt)] at hback
  have htop : stackTop (pushed s v) 0 = BitVec.ofNat 16 ((pushed s v).mem.peekN s.sreg.ss (s.gpr.sp - 2) 2) := by
    rw [peekN_two, stackTop, Nat.mul_zero, BitVec.add_zero]
    rfl
  rw [htop, hback, BitVec.ofNat_toNat, BitVec.setWidth_eq]

/-- A push keeps the words above it. -/
theorem stackTop_pushed_succ (hw : s.mem.wf = true) (v : Word) {j : Nat} (hj : 2 * j + 3 < 65536) :
    stackTop (pushed s v) (j + 1) = stackTop s j := by
  have kept {i : Nat} (hi : i < 65534) :
      (pushed s v).mem.peek s.sreg.ss (s.gpr.sp + BitVec.ofNat 16 i)
        = s.mem.peek s.sreg.ss (s.gpr.sp + BitVec.ofNat 16 i) := by
    rw [mem_pushed]
    refine Memory.peek_pokeN_other hw _ (inBounds_of_canPush h) (fun k hk ⟨_, he⟩ => ?_)
    bv_omega
  rw [stackTop, pushed_sp_add]
  have hlow := kept (i := 2 * j) (by omega)
  have hhigh := kept (i := 2 * j + 1) (by omega)
  rw [BitVec.ofNat_add, ← BitVec.add_assoc] at hhigh
  exact congrArg₂ (· ++ ·) hhigh hlow

/-- A word pushed can be popped. -/
theorem canPopAt_pushed_zero (v : Word) : (pushed s v).canPopAt 0 = true := by
  obtain ⟨hlow, htop⟩ := State.canPush_one h
  obtain ⟨z, hz, hle⟩ := State.sp_le_segSize (n := 2) (by decide) htop
  have hsp : ((pushed s v).gpr.sp + BitVec.ofNat 16 (2 * 0)).toNat + 2 = s.gpr.sp.toNat := by
    show (s.gpr.sp - 2 + 0#16).toNat + 2 = _
    bv_omega
  have hseg : (pushed s v).mem.segSize (pushed s v).sreg.ss = some z := hz
  simp only [State.canPopAt, hseg, hsp, hle, decide_true]

end

/-- A push leaves what could be popped before it. -/
theorem canPopAt_pushed_succ (s : State) (v : Word) (j : Nat) : (pushed s v).canPopAt (j + 1) = s.canPopAt j := by
  unfold State.canPopAt
  rw [pushed_sp_add]
  rfl

theorem sp_foldl_pushed (s : State) (vs : List Word) :
    (vs.foldl pushed s).gpr.sp = s.gpr.sp - BitVec.ofNat 16 (2 * vs.length) := by
  induction vs generalizing s with
  | nil => exact (BitVec.sub_zero _).symm
  | cons v vs ih =>
    rw [List.foldl_cons, ih, List.length_cons, sub_words_succ]
    rfl

theorem wf_foldl_pushed {s : State} (hw : s.mem.wf = true) (vs : List Word) (h : s.canPush vs.length = true) :
    (vs.foldl pushed s).mem.wf = true := by
  induction vs generalizing s with
  | nil => exact hw
  | cons v vs ih => exact ih (wf_pushed (canPush_mono h (by simp)) hw v) (canPush_pushed v h)

/-- Words pushed one after another stand on the stack, the last at the top, and can be popped (20_memory R104). -/
theorem stack_foldl_pushed {s : State} (hw : s.mem.wf = true) (vs : List Word) (h : s.canPush vs.length = true)
    {j : Nat} {w : Word} (hj : vs.reverse[j]? = some w) :
    (vs.foldl pushed s).canPopAt j = true ∧ stackTop (vs.foldl pushed s) j = w := by
  induction vs using List.reverseRecOn generalizing j with
  | nil => simp at hj
  | append_singleton vs v ih =>
    rw [List.length_append, List.length_singleton] at h
    have hvs : s.canPush vs.length = true := canPush_mono h (by omega)
    have hv : (vs.foldl pushed s).canPush 1 = true := canPush_foldl_pushed vs (by rwa [Nat.add_comm])
    have hwf := wf_foldl_pushed hw vs hvs
    rw [List.reverse_concat] at hj
    rw [List.foldl_concat]
    cases j with
    | zero =>
      obtain rfl : v = w := by simpa using hj
      exact ⟨canPopAt_pushed_zero hv v, stackTop_pushed_zero hv hwf v⟩
    | succ j =>
      have hj' : vs.reverse[j]? = some w := by simpa using hj
      have hlen : j < vs.length := by simpa using (List.getElem?_eq_some_iff.1 hj').1
      have hfits : 2 * (vs.length + 1) < 65536 := by
        simp only [State.canPush, Bool.and_eq_true, decide_eq_true_eq] at h
        exact Nat.lt_of_le_of_lt h.1 s.gpr.sp.isLt
      rw [canPopAt_pushed_succ, stackTop_pushed_succ hv hwf v (by omega)]
      exact ih hvs hj'

/-! ## `PUSHA` and `POPA` (44_stack R292, R293) -/

/-- A register popped where the `k`-th word of `s` is the top, whatever the other registers hold by then. -/
theorem State.popReg_ok {s : State} {g : Gpr} {k : Nat} (r : R16) (hsp : g.sp = s.gpr.sp + BitVec.ofNat 16 (2 * k))
    (h : s.canPopAt k = true) :
    State.popReg { s with gpr := g } r
      = .ok { s with gpr := ({ g with sp := s.gpr.sp + BitVec.ofNat 16 (2 * (k + 1)) }).set r (stackTop s k) } := by
  have hpop : State.canPopAt { s with gpr := g } 0 = true := by
    simpa only [State.canPopAt, hsp, Nat.mul_zero, BitVec.add_zero] using h
  have htop : stackTop { s with gpr := g } 0 = stackTop s k := by
    simp only [stackTop, hsp, Nat.mul_zero, BitVec.add_zero]
    rfl
  have hsp' : g.sp + BitVec.ofNat 16 (2 * 1) = s.gpr.sp + BitVec.ofNat 16 (2 * (k + 1)) := by
    rw [hsp, BitVec.add_assoc, ← BitVec.ofNat_add, ← Nat.mul_add]
  rw [State.popReg, State.pop16_ok hpop, htop, ← hsp']
  rfl

/-- The same, with more to do on the state it leaves. -/
theorem State.popReg_bind {s : State} {g : Gpr} {k : Nat} (r : R16) (hsp : g.sp = s.gpr.sp + BitVec.ofNat 16 (2 * k))
    (h : s.canPopAt k = true) (f : State → Except Fault State) :
    (State.popReg { s with gpr := g } r >>= f)
      = f { s with gpr := ({ g with sp := s.gpr.sp + BitVec.ofNat 16 (2 * (k + 1)) }).set r (stackTop s k) } :=
  bind_of_ok (State.popReg_ok r hsp h) f

theorem State.popAll_ok {s : State} (h : ([0, 1, 2, 4, 5, 6, 7].all s.canPopAt) = true) :
    s.popAll = .ok { s with gpr :=
      { di := stackTop s 0, si := stackTop s 1, bp := stackTop s 2, bx := stackTop s 4, dx := stackTop s 5
        cx := stackTop s 6, ax := stackTop s 7, sp := s.gpr.sp + 16 } } := by
  simp only [List.all_cons, List.all_nil, Bool.and_true, Bool.and_eq_true] at h
  obtain ⟨h0, h1, h2, h4, h5, h6, h7⟩ := h
  have hskip : s.gpr.sp + BitVec.ofNat 16 (2 * 3) + 2 = s.gpr.sp + BitVec.ofNat 16 (2 * 4) := BitVec.add_assoc _ _ _
  calc s.popAll
      = _ := State.popReg_bind .di (BitVec.add_zero _).symm h0 _
    _ = _ := State.popReg_bind .si rfl h1 _
    _ = _ := State.popReg_bind .bp rfl h2 _
    _ = _ := State.popReg_bind .bx hskip h4 _
    _ = _ := State.popReg_bind .dx rfl h5 _
    _ = _ := State.popReg_bind .cx rfl h6 _
    _ = _ := State.popReg_ok .ax rfl h7

/-- The stack after `PUSHA` holds the registers, `DI` at the top (44_stack R292). -/
theorem State.popAll_pushAll {s t : State} (hw : s.mem.wf = true) (h : s.pushAll = .ok t) :
    t.popAll = .ok { t with gpr := s.gpr } := by
  obtain ⟨hroom, rfl⟩ := State.pushList_inv h
  set vs : List Word := [s.gpr.ax, s.gpr.cx, s.gpr.dx, s.gpr.bx, s.gpr.sp, s.gpr.bp, s.gpr.si, s.gpr.di]
  have stands {j : Nat} {w : Word} (hj : vs.reverse[j]? = some w) := stack_foldl_pushed hw vs hroom hj
  have hlt : ∀ j ∈ [0, 1, 2, 4, 5, 6, 7], j < 8 := by decide
  have hpops : ([0, 1, 2, 4, 5, 6, 7].all (vs.foldl pushed s).canPopAt) = true :=
    List.all_eq_true.2 fun j hj => (stands (List.getElem?_eq_getElem (hlt j hj))).1
  have hsp : (vs.foldl pushed s).gpr.sp + 16 = s.gpr.sp := by
    rw [sp_foldl_pushed]
    exact BitVec.sub_add_cancel _ _
  rw [State.popAll_ok hpops, hsp, (stands (j := 0) rfl).2, (stands (j := 1) rfl).2, (stands (j := 2) rfl).2,
    (stands (j := 4) rfl).2, (stands (j := 5) rfl).2, (stands (j := 6) rfl).2, (stands (j := 7) rfl).2]

theorem finish_eq_next {o : Except Fault State} {t : State} (h : finish o = .next t) : o = .ok t := by
  cases o with
  | ok u => cases h; rfl
  | error f => cases h

/-- Settles O22: the eight pushes and the seven pops by the laws of each, and the round trip by what the pushes leave. -/
theorem pushAllPopAll : Obligations.PushAllPopAll :=
  ⟨fun _ => ⟨fun h => congrArg finish (State.pushList_ok _ h), fun h => congrArg finish (State.popAll_ok h)⟩,
    fun _ _ hw h => congrArg finish (State.popAll_pushAll hw (finish_eq_next h))⟩

/-! ## `ENTER` and `LEAVE` (44_stack R296, R297) -/

/-- The first copy, then the others from the frame pointer below. -/
theorem framesCopied_succ (bp : Word) (n : Nat) (s : State) :
    framesCopied bp (n + 1) s = framesCopied (bp - 2) n (pushed s (memWord s s.sreg.ss (bp - 2))) := by
  induction n with
  | zero => rfl
  | succ n ih =>
    rw [framesCopied, ih, sub_words_succ bp (n + 1)]
    rfl

/-- The copies do not look at `BP` itself. -/
theorem framesCopied_setBp (bp : Word) (n : Nat) (s : State) (x : Word) :
    framesCopied bp n (s.setR16 .bp x) = (framesCopied bp n s).setR16 .bp x := by
  induction n with
  | zero => rfl
  | succ n ih =>
    rw [framesCopied, ih]
    rfl

theorem canPush_framesCopied {s : State} (bp : Word) (n : Nat) {k : Nat} (h : s.canPush (k + n) = true) :
    (framesCopied bp n s).canPush k = true := by
  induction n generalizing k with
  | zero => exact h
  | succ n ih => exact canPush_pushed _ (ih (k := k + 1) (by rwa [Nat.add_right_comm]))

/-- One copy, after which `BP` stands at the pointer copied. -/
theorem State.copyFrames_succ_ok {s : State} (n : Nat) (hread : s.readable s.sreg.ss (s.gpr.bp - 2) 2 = true)
    (hpush : s.canPush 1 = true) :
    s.copyFrames (n + 1)
      = ((pushed s (memWord s s.sreg.ss (s.gpr.bp - 2))).setR16 .bp (s.gpr.bp - 2)).copyFrames n := by
  have hget := State.read16_ok (s := s.setR16 .bp (s.gpr.bp - 2)) hread
  have hput := State.push16_ok (s := s.setR16 .bp (s.gpr.bp - 2)) (memWord s s.sreg.ss (s.gpr.bp - 2)) hpush
  rw [State.copyFrames]
  exact (bind_of_ok hget _).trans (bind_of_ok hput _)

/-- The model's copies, which move `BP` itself, leave the frames copied and `BP` past them. -/
theorem State.copyFrames_ok {s : State} {n : Nat} (hpush : s.canPush n = true)
    (hread : ∀ j < n, s.readable s.sreg.ss (s.gpr.bp - BitVec.ofNat 16 (2 * (j + 1))) 2 = true) :
    s.copyFrames n = .ok ((framesCopied s.gpr.bp n s).setR16 .bp (s.gpr.bp - BitVec.ofNat 16 (2 * n))) := by
  induction n generalizing s with
  | zero =>
    rw [State.copyFrames, Nat.mul_zero, BitVec.sub_zero]
    rfl
  | succ n ih =>
    have hrest := ih (s := (pushed s (memWord s s.sreg.ss (s.gpr.bp - 2))).setR16 .bp (s.gpr.bp - 2))
      (canPush_pushed _ hpush) (fun j hj => by
        show s.readable s.sreg.ss (s.gpr.bp - 2 - _) 2 = true
        rw [← sub_words_succ]
        exact hread (j + 1) (by omega))
    rw [State.copyFrames_succ_ok n (hread 0 (by omega)) (canPush_mono hpush (by omega)), hrest, framesCopied_setBp,
      framesCopied_succ, sub_words_succ _ n]
    rfl

/-- The state after the pushes of `ENTER`, before `BP` and `SP` are set (44_stack R296). -/
def framePushed (s : State) (level : Nat) : State :=
  if level = 0 then pushed s s.gpr.bp
  else pushed (framesCopied s.gpr.bp (level - 1) (pushed s s.gpr.bp)) (s.gpr.sp - 2)

theorem State.enterFrame_ok {s : State} (size : Word) {imm : Byte} {level : Nat} (hlevel : imm.toNat % 32 = level)
    (hpush : s.canPush (level + 1) = true)
    (hread : ∀ j, 1 ≤ j → j < level → s.readable s.sreg.ss (s.gpr.bp - BitVec.ofNat 16 (2 * j)) 2 = true) :
    s.enterFrame size imm = .ok { framePushed s level with gpr :=
      { (framePushed s level).gpr with bp := s.gpr.sp - 2, sp := (framePushed s level).gpr.sp - size } } := by
  have hbp : s.push16 s.gpr.bp = .ok (pushed s s.gpr.bp) := State.push16_ok _ (canPush_mono hpush (by omega))
  rw [State.enterFrame, enterLevel_eq, hlevel, hbp]
  cases level with
  | zero => rfl
  | succ n =>
    have hroom : (pushed s s.gpr.bp).canPush (n + 1) = true := canPush_pushed _ hpush
    have hcopies := State.copyFrames_ok (s := pushed s s.gpr.bp) (n := n) (canPush_mono hroom (by omega))
      (fun j hj => hread (j + 1) (by omega) (by omega))
    have hleft : (framesCopied s.gpr.bp n (pushed s s.gpr.bp)).canPush 1 = true :=
      canPush_framesCopied _ n (by rwa [Nat.add_comm])
    have hframe := State.push16_ok (s := (framesCopied s.gpr.bp n (pushed s s.gpr.bp)).setR16 .bp
      (s.gpr.bp - BitVec.ofNat 16 (2 * n))) (s.gpr.sp - 2) hleft
    exact (bind_of_ok hcopies _).trans (bind_of_ok hframe _)

theorem State.leaveFrame_ok {s : State} (h : (withSp s s.gpr.bp).canPop 1 = true) :
    s.leaveFrame = .ok { s with gpr := { s.gpr with sp := s.gpr.bp + 2, bp := memWord s s.sreg.ss s.gpr.bp } } := by
  have hpop := State.popReg_ok (s := withSp s s.gpr.bp) .bp (BitVec.add_zero _).symm
    (State.canPopAt_of_canPop h (by decide : 0 < 1))
  have htop : stackTop (withSp s s.gpr.bp) 0 = memWord s s.sreg.ss s.gpr.bp := by
    rw [stackTop, Nat.mul_zero, BitVec.add_zero]
    rfl
  rw [htop] at hpop
  exact hpop

/-- Settles O23: each copy is read and pushed in the model's order; `LEAVE` is a pop where `BP` stood. -/
theorem enterLeave : Obligations.EnterLeave :=
  fun _ => ⟨fun size _ hpush hread => congrArg finish (State.enterFrame_ok size rfl hpush hread),
    fun h => congrArg finish (State.leaveFrame_ok h)⟩

end Sys2Proof.Machine

/-! PROOFS of the statements about strings and flag control (45_string_flag_misc): one iteration of each string
instruction from its reads and its write, at both widths; the repetition one iteration at a time; the flag-control
instructions. -/

namespace Sys2Proof.Machine

open Sys2Proof.Spec

/-! ## What an iteration moves (45_string_flag_misc R311) -/

theorem State.stepSi_eq_advance (s : State) (w : Nat) : s.stepSi w = advance s (BitVec.ofNat 16 w) true false := by
  cases hd : s.flags.DF <;> simp [State.stepSi, State.delta, State.setR16, Gpr.set, advance, hd, BitVec.sub_eq_add_neg]

theorem State.stepDi_eq_advance (s : State) (w : Nat) : s.stepDi w = advance s (BitVec.ofNat 16 w) false true := by
  cases hd : s.flags.DF <;> simp [State.stepDi, State.delta, State.setR16, Gpr.set, advance, hd, BitVec.sub_eq_add_neg]

theorem State.stepDi_stepSi_eq_advance (s : State) (w : Nat) :
    (s.stepSi w).stepDi w = advance s (BitVec.ofNat 16 w) true true := by
  rw [State.stepDi_eq_advance, State.stepSi_eq_advance]
  rfl

/-! ## One iteration (45_string_flag_misc R312 to R316) -/

theorem Memory.peekN_lt (m : Memory) (sel off : Word) (n : Nat) : m.peekN sel off n < 2 ^ (8 * n) := by
  induction n generalizing off with
  | zero => exact Nat.one_pos
  | succ n ih =>
    have hb := (m.peek sel off).isLt
    have hrest := ih (off + 1)
    rw [Memory.peekN, Nat.mul_succ, Nat.pow_add]
    omega

/-- The number read is that of the bit vector read: it is below the width. -/
theorem State.memRead_of_readBits {s : State} {sel off : Word} {n : Nat} {v : BitVec (8 * n)}
    (h : s.readBits sel off n = .ok v) : s.memRead sel off n = .ok v.toNat := by
  cases hread : s.memRead sel off n with
  | error f =>
    rw [State.readBits, hread] at h
    cases h
  | ok x =>
    obtain ⟨-, hx⟩ := State.memRead_inv hread
    rw [State.readBits, hread] at h
    cases h
    rw [BitVec.toNat_ofNat, Nat.mod_eq_of_lt (hx ▸ s.mem.peekN_lt sel off n)]

section

variable {s t : State} {w : Nat} {g : SReg}

theorem State.movsIter_ok {v : BitVec (8 * w)} (hget : s.readBits (s.seg g) s.gpr.si w = .ok v)
    (hput : s.memWrite s.sreg.es s.gpr.di w v.toNat = .ok t) :
    s.movsIter w g = .ok (advance t (BitVec.ofNat 16 w) true true) := by
  rw [← State.stepDi_stepSi_eq_advance]
  exact (bind_of_ok (State.memRead_of_readBits hget) _).trans (bind_of_ok hput _)

theorem State.cmpsIter_ok {a b : BitVec (8 * w)} {x : StatusFlags} (ha : s.readBits (s.seg g) s.gpr.si w = .ok a)
    (hb : s.readBits s.sreg.es s.gpr.di w = .ok b) (hx : (subFlags a b false).2 = x) :
    s.cmpsIter w g = .ok (advance (s.setStatus x) (BitVec.ofNat 16 w) true true) := by
  rw [← State.stepDi_stepSi_eq_advance, ← hx]
  exact (bind_of_ok ha _).trans (bind_of_ok hb _)

theorem State.scasIter_ok {b : BitVec (8 * w)} {x : StatusFlags} (hb : s.readBits s.sreg.es s.gpr.di w = .ok b)
    (hx : (subFlags (s.accumulator w) b false).2 = x) :
    s.scasIter w = .ok (advance (s.setStatus x) (BitVec.ofNat 16 w) false true) := by
  rw [← State.stepDi_eq_advance, ← hx]
  exact bind_of_ok hb _

theorem State.stosIter_ok (hput : s.memWrite s.sreg.es s.gpr.di w (s.accumulator w).toNat = .ok t) :
    s.stosIter w = .ok (advance t (BitVec.ofNat 16 w) false true) := by
  rw [← State.stepDi_eq_advance]
  exact bind_of_ok hput _

theorem State.lodsIter_ok {v : BitVec (8 * w)} (hget : s.readBits (s.seg g) s.gpr.si w = .ok v) :
    s.lodsIter w g = .ok (advance (if w = 1 then s.setR8 .al (v.setWidth 8) else s.setR16 .ax (v.setWidth 16))
      (BitVec.ofNat 16 w) true false) := by
  rw [← State.stepSi_eq_advance, ← BitVec.ofNat_toNat, ← BitVec.ofNat_toNat]
  exact bind_of_ok (State.memRead_of_readBits hget) _

end

theorem State.accumulator_one (s : State) : s.accumulator 1 = lowByte s.gpr.ax :=
  BitVec.setWidth_eq_extractLsb' (by decide)

theorem State.accumulator_two (s : State) : s.accumulator 2 = s.gpr.ax := BitVec.setWidth_eq _

theorem subFlags_snd8 (a b : Byte) : (subFlags a b false).2 = diffFlags a b false :=
  congrArg Prod.snd (subFlags_noBorrow8 a b)

theorem subFlags_snd16 (a b : Word) : (subFlags a b false).2 = diffFlags a b false :=
  congrArg Prod.snd (subFlags_noBorrow16 a b)

/-- Settles O24: each iteration from its reads and its write in bounds, a byte or a word. -/
theorem stringIterations : Obligations.StringIterations := by
  refine fun s g => ⟨fun hs hd => ⟨?movsb, ?cmpsb⟩, fun hs hd => ⟨?movsw, ?cmpsw⟩, fun hd => ⟨?scasb, ?stosb⟩,
    fun hd => ⟨?scasw, ?stosw⟩, fun hs => ?lodsb, fun hs => ?lodsw⟩
  case movsb => exact congrArg finish (State.movsIter_ok (w := 1) (State.read8_ok hs) (State.write8_ok _ hd))
  case movsw => exact congrArg finish (State.movsIter_ok (w := 2) (State.read16_ok hs) (State.write16_ok _ hd))
  case cmpsb =>
    exact congrArg finish (State.cmpsIter_ok (w := 1) (State.read8_ok hs) (State.read8_ok hd) (subFlags_snd8 _ _))
  case cmpsw =>
    exact congrArg finish (State.cmpsIter_ok (w := 2) (State.read16_ok hs) (State.read16_ok hd) (subFlags_snd16 _ _))
  case scasb =>
    rw [← State.accumulator_one]
    exact congrArg finish (State.scasIter_ok (w := 1) (State.read8_ok hd) (subFlags_snd8 _ _))
  case scasw =>
    rw [← State.accumulator_two]
    exact congrArg finish (State.scasIter_ok (w := 2) (State.read16_ok hd) (subFlags_snd16 _ _))
  case stosb =>
    rw [← State.accumulator_one]
    exact congrArg finish (State.stosIter_ok (w := 1) (State.write8_ok _ hd))
  case stosw =>
    rw [← State.accumulator_two]
    exact congrArg finish (State.stosIter_ok (w := 2) (State.write16_ok _ hd))
  case lodsb =>
    have h := State.lodsIter_ok (w := 1) (g := g) (State.read8_ok hs)
    rw [BitVec.setWidth_eq] at h
    exact congrArg finish h
  case lodsw =>
    have h := State.lodsIter_ok (w := 2) (g := g) (State.read16_ok hs)
    rw [BitVec.setWidth_eq] at h
    exact congrArg finish h

/-! ## Repetition (45_string_flag_misc R317) -/

/-- An iteration whose scope leaves `CX` out leaves it as it was, so the count at entry is `CX` throughout (LOG 15). -/
theorem Iterates.cx_eq {c : Scope} {w : Nat} {stores : Bool} {s t : State} {o : Except Fault State}
    (h : Iterates c w stores s o) (hcx : R16.cx ∉ c.regs) (ht : o = .ok t) : t.gpr.cx = s.gpr.cx := by
  rw [ht] at h
  obtain ⟨hframe, -⟩ := h
  exact hframe.regs .cx hcx

/-- With `CX` other than 0: an iteration, the decrement, the test, and the rest of the repetition. -/
theorem repeatString_of_cx_ne_zero {s : State} {iter : State → Except Fault State} (r : Rep) (compares : Bool)
    (h : s.gpr.cx ≠ 0) (hkeep : ∀ t, iter s = .ok t → t.gpr.cx = s.gpr.cx) :
    s.repeatString (some r) compares iter = iter s >>= fun t =>
      if compares && stopsOn r t.flags.ZF then .ok (countDown t)
      else (countDown t).repeatString (some r) compares iter := by
  obtain ⟨n, hn⟩ : ∃ n, s.gpr.cx.toNat = n + 1 := Nat.exists_eq_succ_of_ne_zero fun e => h (BitVec.eq_of_toNat_eq e)
  cases hiter : iter s with
  | error f => rw [State.repeatString, hn, repLoop, hiter]; rfl
  | ok t =>
    have hleft : (countDown t).gpr.cx.toNat = n := by
      change (t.gpr.cx - 1).toNat = n
      rw [hkeep t hiter]
      bv_omega
    rw [State.repeatString, hn, repLoop, hiter, ← hleft]
    rfl

theorem finish_bind (o : Except Fault State) (k : State → Except Fault State) :
    finish (o >>= k) = andThen (finish o) fun t => finish (k t) := by
  cases o with
  | ok t => rfl
  | error f => rfl

/-- The meaning of a string instruction repeats by the rule when its iteration leaves `CX`. -/
theorem repeats_of_iterates {form : Option Rep → Instr} {iter : State → Except Fault State} {c : Scope} {w : Nat}
    {stores : Bool} (compares : Bool) (hform : ∀ rep s, exec (form rep) s = finish (s.repeatString rep compares iter))
    (hi : ∀ s, Iterates c w stores s (iter s)) (hcx : R16.cx ∉ c.regs) :
    Repeats form (fun r z => compares && stopsOn r z) := by
  refine fun s r => ⟨fun h => ?none, fun h => ?some⟩
  case none =>
    rw [hform, repeatString_of_cx_zero h]
    rfl
  case some =>
    rw [hform none, hform (some r) s, repeatString_of_cx_ne_zero r compares h fun t => (hi s).cx_eq hcx, finish_bind]
    simp only [apply_ite finish, hform]
    rfl

/-- Settles O25: every form is a repetition of its iteration, and no iteration writes `CX`. -/
theorem repetition : Obligations.Repetition :=
  ⟨fun g => ⟨repeats_of_iterates false (fun _ _ => rfl) (fun s => iterates_movs s 1 g (by decide)) (by decide),
      repeats_of_iterates false (fun _ _ => rfl) (fun s => iterates_movs s 2 g (by decide)) (by decide),
      repeats_of_iterates false (fun _ _ => rfl) (fun s => iterates_lods s 1 g) (by decide),
      repeats_of_iterates false (fun _ _ => rfl) (fun s => iterates_lods s 2 g) (by decide),
      repeats_of_iterates true (fun _ _ => rfl) (fun s => iterates_cmps s 1 g) (by decide),
      repeats_of_iterates true (fun _ _ => rfl) (fun s => iterates_cmps s 2 g) (by decide)⟩,
    repeats_of_iterates false (fun _ _ => rfl) (fun s => iterates_stos s 1 (by decide)) (by decide),
    repeats_of_iterates false (fun _ _ => rfl) (fun s => iterates_stos s 2 (by decide)) (by decide),
    repeats_of_iterates true (fun _ _ => rfl) (fun s => iterates_scas s 1) (by decide),
    repeats_of_iterates true (fun _ _ => rfl) (fun s => iterates_scas s 2) (by decide)⟩

/-! ## Flag control, `HLT`, `WAIT` (45_string_flag_misc R320 to R326, R331, R333) -/

/-- Settles O26: each is one field of the state written, `WAIT` none. -/
theorem flagControlHaltWait : Obligations.FlagControlHaltWait :=
  fun _ => ⟨rfl, rfl, rfl, rfl, rfl, rfl, rfl, rfl, rfl⟩

end Sys2Proof.Machine

/-! PROOFS of the statements about the x87 numerics (46_x87_numerics): rounding to an integer and to a format, against the
rational numbers. -/

namespace Sys2Proof.Spec

open Sys2Proof.Machine

/-! ## The nearest integer (46_x87_numerics R348) -/

theorem nearest_of_even {q : ℚ} {i : Int} (h : |q - i| ≤ 1 / 2) (he : i % 2 = 0) : Nearest q i := ⟨h, fun _ => he⟩

theorem nearest_of_lt {q : ℚ} {i : Int} (h : |q - i| < 1 / 2) : Nearest q i := ⟨h.le, fun e => absurd e h.ne⟩

theorem nearest_intCast (i : Int) : Nearest (i : ℚ) i := nearest_of_lt (by norm_num)

/-- Rounding to nearest does not cross an integer from above. -/
theorem Nearest.ge {q : ℚ} {i n : Int} (h : Nearest q i) (hn : (n : ℚ) ≤ q) : n ≤ i := by
  by_contra hc
  have hi : (i : ℚ) + 1 ≤ n := by exact_mod_cast not_le.1 hc
  linarith [(abs_le.1 h.1).2]

/-- Rounding to nearest does not cross an integer from below. -/
theorem Nearest.le {q : ℚ} {i n : Int} (h : Nearest q i) (hn : q ≤ n) : i ≤ n := by
  by_contra hc
  have hi : (n : ℚ) + 1 ≤ i := by exact_mod_cast not_le.1 hc
  linarith [(abs_le.1 h.1).1]

/-- Two nearest integers a unit apart would both be halfway, so both even. -/
theorem Nearest.not_succ {q : ℚ} {i : Int} (hi : Nearest q i) (hj : Nearest q (i + 1)) : False := by
  obtain ⟨hi, ei⟩ := hi
  obtain ⟨hj, ej⟩ := hj
  push_cast at hj ej
  have hlow : 1 / 2 ≤ q - i := by linarith [(abs_le.1 hj).1]
  have hhigh : q - i ≤ 1 / 2 := (abs_le.1 hi).2
  have hq : q - i = 1 / 2 := le_antisymm hhigh hlow
  have h1 := ei (by rw [hq]; norm_num)
  have h2 := ej (by rw [show q - (i + 1) = -(1 / 2) by linarith]; norm_num)
  omega

theorem Nearest.unique {q : ℚ} {i j : Int} (hi : Nearest q i) (hj : Nearest q j) : i = j := by
  have hij : (i : ℚ) - j ≤ 1 := by linarith [(abs_le.1 hi.1).1, (abs_le.1 hj.1).2]
  have hji : (j : ℚ) - i ≤ 1 := by linarith [(abs_le.1 hi.1).2, (abs_le.1 hj.1).1]
  have hij' : i - j ≤ 1 := by exact_mod_cast hij
  have hji' : j - i ≤ 1 := by exact_mod_cast hji
  obtain h | rfl | rfl : i = j ∨ j = i + 1 ∨ i = j + 1 := by omega
  · exact h
  · exact (hi.not_succ hj).elim
  · exact (hj.not_succ hi).elim

theorem Nearest.eq_of_natCast {n : Nat} {i : Int} (h : Nearest (n : ℚ) i) : i = n :=
  h.unique (nearest_intCast n)

/-! ## The integer by `RC` (46_x87_numerics R352) -/

/-- Every rounding of an integer is that integer. -/
theorem RoundedInt.eq_of_intCast {rc : BitVec 2} {i j : Int} (h : RoundedInt rc (j : ℚ) i) : i = j := by
  unfold RoundedInt at h
  split at h
  · exact h.unique (nearest_intCast j)
  · simpa using h
  · simpa using h
  · simpa using h

/-- A rounded integer is less than a unit away. -/
theorem RoundedInt.abs_sub_lt {rc : BitVec 2} {q : ℚ} {i : Int} (h : RoundedInt rc q i) : |q - i| < 1 := by
  have hfloor : |q - ⌊q⌋| < 1 := by rw [abs_lt]; constructor <;> linarith [Int.floor_le q, Int.lt_floor_add_one q]
  have hceil : |q - ⌈q⌉| < 1 := by rw [abs_lt]; constructor <;> linarith [Int.le_ceil q, Int.ceil_lt_add_one q]
  unfold RoundedInt at h
  split at h
  · linarith [h.1]
  · rwa [h]
  · rwa [h]
  · rw [h]
    split_ifs
    · exact hceil
    · exact hfloor

/-- The binade of a number is determined. -/
theorem binade_unique {x : ℚ} {e d : Int} (he : (2 : ℚ) ^ e ≤ x) (he' : x < 2 ^ (e + 1)) (hd : (2 : ℚ) ^ d ≤ x)
    (hd' : x < 2 ^ (d + 1)) : e = d := by
  have h1 := two_zpow_lt_iff.1 (he.trans_lt hd')
  have h2 := two_zpow_lt_iff.1 (hd.trans_lt he')
  omega

end Sys2Proof.Spec

namespace Sys2Proof.Machine

open Sys2Proof.Spec

/-! ## `RNE` and `RInt` of a pair (46_x87_numerics R348, R352) -/

theorem Ratio.ceil_eq (q : Ratio) (hd : 0 < q.den) : q.ceil = ⌈rat q⌉ := by
  rw [show q.ceil = -q.neg.floor from rfl, Ratio.floor_eq q.neg hd, rat_neg, Int.floor_neg, neg_neg]

/-- `rne` compares the fraction with a half. -/
theorem rne_nearest (q : Ratio) (hd : 0 < q.den) : Nearest (rat q) q.rne := by
  have hden : (0 : ℚ) < q.den := by exact_mod_cast hd
  have hfrac : ((2 * (q.num - q.floor * q.den) : Int) : ℚ) = 2 * (rat q - q.floor) * q.den := by
    have hmul : rat q * q.den = q.num := div_mul_cancel₀ _ hden.ne'
    push_cast
    rw [← hmul]
    ring
  have hlt : 2 * (q.num - q.floor * q.den) < q.den ↔ rat q - q.floor < 1 / 2 := by
    rw [← Int.cast_lt (R := ℚ), hfrac, Int.cast_natCast, mul_lt_iff_lt_one_left hden, lt_div_iff₀' two_pos]
  have hgt : (q.den : Int) < 2 * (q.num - q.floor * q.den) ↔ 1 / 2 < rat q - q.floor := by
    rw [← Int.cast_lt (R := ℚ), hfrac, Int.cast_natCast, lt_mul_iff_one_lt_left hden, div_lt_iff₀' two_pos]
  have h0 : 0 ≤ rat q - q.floor := by rw [Ratio.floor_eq q hd]; linarith [Int.floor_le (rat q)]
  have h1 : rat q - q.floor < 1 := by rw [Ratio.floor_eq q hd]; linarith [Int.lt_floor_add_one (rat q)]
  unfold Ratio.rne
  simp only [hlt, hgt]
  split_ifs with hbelow habove heven
  · exact nearest_of_lt (by rwa [abs_of_nonneg h0])
  · exact nearest_of_lt (by push_cast; rw [abs_lt]; constructor <;> linarith)
  · exact nearest_of_even (by rw [abs_of_nonneg h0]; linarith) heven
  · exact nearest_of_even (by push_cast; rw [abs_le]; constructor <;> linarith) (by omega)

theorem roundTo_roundedInt (rc : BitVec 2) (q : Ratio) (hd : 0 < q.den) : RoundedInt rc (rat q) (q.roundTo rc) := by
  obtain rfl | rfl | rfl | rfl : rc = 0 ∨ rc = 1 ∨ rc = 2 ∨ rc = 3 := by decide +revert
  · exact rne_nearest q hd
  · exact Ratio.floor_eq q hd
  · exact Ratio.ceil_eq q hd
  · change (if q.num < 0 then q.ceil else q.floor) = if rat q < 0 then ⌈rat q⌉ else ⌊rat q⌋
    simp only [Ratio.num_neg_iff q hd, Ratio.floor_eq q hd, Ratio.ceil_eq q hd]

/-- Settles O37: `rne` compares the fraction with a half, the other three are floors and ceilings. -/
theorem roundToInteger : Obligations.RoundToInteger := fun q hd =>
  ⟨roundTo_roundedInt 0 q hd, roundTo_roundedInt 1 q hd, roundTo_roundedInt 2 q hd, roundTo_roundedInt 3 q hd⟩

/-! ## `Round` of a pair (46_x87_numerics R348) -/

theorem Ratio.floorLog2_eq {a : Ratio} {e : Int} (hn : 0 < a.num) (hd : 0 < a.den) (he : (2 : ℚ) ^ e ≤ rat a)
    (he' : rat a < 2 ^ (e + 1)) : a.floorLog2 = e := by
  obtain ⟨h, h'⟩ := Ratio.floorLog2_bounds a hd hn
  exact binade_unique h h' he he'

theorem rat_roundAt_of_nearest {a : Ratio} {k m : Int} (hd : 0 < a.den) (h : Nearest (rat a / 2 ^ k) m) :
    rat (roundAt a k) = m * 2 ^ k := by
  have hrne := rne_nearest (a.scale k) (Ratio.scale_den_pos a k hd)
  rw [rat_scale] at hrne
  rw [rat_roundAt, hrne.unique h]

/-- The flags of a rounding, by the numbers. -/
theorem ite_eq_flags {r a : Ratio} {q : ℚ} (hr : 0 < r.den) (ha : 0 < a.den) (h : rat r = q) (f : ExcFlags) :
    (if r.eq a then .none else f) = if q = rat a then .none else f := by
  simp only [Ratio.eq_iff r a hr ha, h]

/-- Settles O38: the binade and the nearest integers are determined, so `roundMag` compares the numbers of the statement. -/
theorem roundToFormat : Obligations.RoundToFormat := by
  intro fmt a e m hn hd x ulp tiny he he' hm r0
  have hr0 : rat (roundAt a (e - fmt.p + 1)) = r0 := rat_roundAt_of_nearest hd hm
  have hden := roundAt_den_pos a (e - fmt.p + 1)
  have hlt : (roundAt a (e - fmt.p + 1)).lt (pow2 fmt.emin) = true ↔ r0 < 2 ^ fmt.emin := by
    rw [Ratio.lt_iff _ _ hden (pow2_den_pos _), hr0, rat_pow2]
  have hle : (pow2 (fmt.emax + 1)).le (roundAt a (e - fmt.p + 1)) = true ↔ 2 ^ (fmt.emax + 1) ≤ r0 := by
    rw [Ratio.le_iff _ _ (pow2_den_pos _) hden, hr0, rat_pow2]
  unfold roundMag
  simp only [Ratio.floorLog2_eq hn hd he he']
  refine ⟨fun hsmall k hk => ?tiny, fun hbig hbeyond => ?infinite, fun hbig hfits => ?normal⟩
  case tiny =>
    have hr := rat_roundAt_of_nearest hd hk
    refine ⟨_, roundAt_den_pos a _, hr, ?_⟩
    rw [if_pos (hlt.2 hsmall), ite_eq_flags (roundAt_den_pos a _) hd hr]
    rfl
  case infinite =>
    rw [if_neg (mt hlt.1 hbig.not_gt), if_pos (hle.2 hbeyond)]
    rfl
  case normal =>
    refine ⟨_, hden, hr0, ?_⟩
    rw [if_neg (mt hlt.1 hbig.not_gt), if_neg (mt hle.1 hfits.not_ge), ite_eq_flags hden hd hr0]
    rfl

end Sys2Proof.Machine

/-! PROOFS of the statements about the x87 numerics: the square root, rounded once from the exact root
(46_x87_numerics R374). -/

namespace Sys2Proof.Machine

open Sys2Proof.Spec

/-! ## The integer square root -/

/-- Each bit halves the interval in which the root lies. -/
theorem isqrtFrom_bounds (v k f : Nat) (hlo : f ^ 2 ≤ v) (hhi : v < (f + 2 ^ k) ^ 2) :
    f ≤ isqrtFrom v k f ∧ isqrtFrom v k f < f + 2 ^ k
      ∧ isqrtFrom v k f ^ 2 ≤ v ∧ v < (isqrtFrom v k f + 1) ^ 2 := by
  induction k generalizing f with
  | zero => exact ⟨le_rfl, by simp [isqrtFrom], hlo, hhi⟩
  | succ k ih =>
    have htwice : (2 : Nat) ^ (k + 1) = 2 ^ k + 2 ^ k := by ring
    unfold isqrtFrom
    split
    case isTrue hbit =>
      obtain ⟨hge, hlt, hsq⟩ := ih (f + 2 ^ k) (by rwa [sq]) (by rwa [add_assoc, ← htwice])
      exact ⟨by omega, by omega, hsq⟩
    case isFalse hbit =>
      obtain ⟨hge, hlt, hsq⟩ := ih f hlo (by rw [sq]; omega)
      exact ⟨hge, by omega, hsq⟩

theorem isqrt_bounds {v : Nat} (h : v < (2 ^ 64) ^ 2) : isqrt v < 2 ^ 64 ∧ isqrt v ^ 2 ≤ v ∧ v < (isqrt v + 1) ^ 2 := by
  obtain ⟨-, hlt, hsq⟩ := isqrtFrom_bounds v 64 0 (Nat.zero_le v) (by rwa [zero_add])
  exact ⟨by rwa [zero_add] at hlt, hsq⟩

/-- The integer root of the floor is that of the number. -/
theorem isqrt_floor_bounds {w : ℚ} (hlo : (2 ^ 63 : ℚ) ^ 2 ≤ w) (hhi : w < (2 ^ 64 : ℚ) ^ 2) :
    2 ^ 63 ≤ isqrt ⌊w⌋.toNat ∧ isqrt ⌊w⌋.toNat < 2 ^ 64
      ∧ (isqrt ⌊w⌋.toNat : ℚ) ^ 2 ≤ w ∧ w < (isqrt ⌊w⌋.toNat + 1 : ℚ) ^ 2 := by
  rw [Int.floor_toNat]
  have hw : 0 ≤ w := le_trans (by positivity) hlo
  have hfloor : (2 ^ 63) ^ 2 ≤ ⌊w⌋₊ := Nat.le_floor (by exact_mod_cast hlo)
  obtain ⟨hlt, hsq, hsucc⟩ := isqrt_bounds ((Nat.floor_lt hw).2 (by exact_mod_cast hhi))
  refine ⟨?_, hlt, ?_, ?_⟩
  · exact Nat.lt_succ_iff.1 (lt_of_pow_lt_pow_left₀ 2 (Nat.zero_le _) (hfloor.trans_lt hsucc))
  · exact_mod_cast (Nat.le_floor_iff hw).1 hsq
  · exact_mod_cast (Nat.floor_lt hw).1 hsucc

/-! ## The rounding of the root -/

/-- The root of `w`, `f` its integer part, rounded to an integer: against the square of `f + 1/2`. -/
def roundRoot (w : ℚ) (f : Nat) : Nat :=
  if (2 * f + 1 : ℚ) ^ 2 / 4 < w then f + 1 else if w < (2 * f + 1 : ℚ) ^ 2 / 4 then f else if f % 2 = 0 then f else f + 1

theorem roundRoot_cases (w : ℚ) (f : Nat) :
    (roundRoot w f = f ∧ 4 * w ≤ (2 * f + 1 : ℚ) ^ 2 ∧ (4 * w = (2 * f + 1 : ℚ) ^ 2 → f % 2 = 0))
    ∨ (roundRoot w f = f + 1 ∧ (2 * f + 1 : ℚ) ^ 2 ≤ 4 * w ∧ (4 * w = (2 * f + 1 : ℚ) ^ 2 → (f + 1) % 2 = 0)) := by
  unfold roundRoot
  split_ifs with habove hbelow heven
  · exact .inr ⟨rfl, by linarith, fun h => by linarith⟩
  · exact .inl ⟨rfl, by linarith, fun h => by linarith⟩
  · exact .inl ⟨rfl, by linarith, fun _ => heven⟩
  · exact .inr ⟨rfl, by linarith, fun _ => by omega⟩

theorem rootRounds_roundRoot {w : ℚ} {f : Nat} (h63 : 2 ^ 63 ≤ f) (h64 : f < 2 ^ 64) (hlo : (f : ℚ) ^ 2 ≤ w)
    (hhi : w < (f + 1 : ℚ) ^ 2) : RootRounds w (roundRoot w f) 0 := by
  have hf : (2 ^ 63 : ℚ) ≤ f := by exact_mod_cast h63
  have hf' : (f + 1 : ℚ) ≤ 2 ^ 64 := by exact_mod_cast h64
  have hlow : (2 ^ 63 : ℚ) ^ 2 ≤ w := (pow_le_pow_left₀ (by positivity) hf 2).trans hlo
  have hhigh : w < (2 ^ 64 : ℚ) ^ 2 := hhi.trans_le (pow_le_pow_left₀ (by positivity) hf' 2)
  simp only [RootRounds, zpow_zero, mul_one]
  obtain ⟨hn, hle, heven⟩ | ⟨hn, hge, heven⟩ := roundRoot_cases w f
  · rw [hn]
    refine ⟨hlow, hhigh, by omega, by omega, ?_, ?_, ?_⟩
    · push_cast
      nlinarith
    · exact_mod_cast hle
    · push_cast
      rintro (h | h)
      · nlinarith
      · exact_mod_cast heven h
  · rw [hn]
    refine ⟨hlow, hhigh, by omega, by omega, ?_, ?_, ?_⟩
    · push_cast
      linarith
    · push_cast
      nlinarith
    · push_cast
      rintro (h | h)
      · exact_mod_cast heven (by linarith)
      · nlinarith

/-- The rounding of the root is counted in units of `2^k`. -/
theorem rootRounds_scale {w : ℚ} {n : Int} (h : RootRounds w n 0) (k : Int) : RootRounds (w * (2 ^ k) ^ 2) n k := by
  simp only [RootRounds, zpow_zero, mul_one] at h
  have hpos : (0 : ℚ) < (2 ^ k) ^ 2 := by positivity
  obtain ⟨hlow, hhigh, h63, h64, hlo, hhi, htie⟩ := h
  simp only [RootRounds, mul_pow _ ((2 : ℚ) ^ k), ← mul_assoc]
  simp only [mul_le_mul_iff_left₀ hpos, mul_lt_mul_iff_left₀ hpos, mul_left_inj' hpos.ne']
  exact ⟨hlow, hhigh, h63, h64, hlo, hhi, htie⟩

/-! ## `sqrtMag` -/

/-- The place of the last bit of the root. -/
def rootPlace (v : Ratio) : Int := v.floorLog2.fdiv 2 - 63

/-- The number counted in units of the square of that place. -/
def rootScaled (v : Ratio) : Ratio := v.scale (2 * rootPlace v)

/-- The root in units of its last place, rounded. -/
def rootDigits (v : Ratio) : Nat := roundRoot (rat (rootScaled v)) (isqrt ⌊rat (rootScaled v)⌋.toNat)

theorem rootScaled_den_pos (v : Ratio) (hd : 0 < v.den) : 0 < (rootScaled v).den := Ratio.scale_den_pos v _ hd

theorem rat_rootScaled_mul (v : Ratio) : rat (rootScaled v) * (2 ^ rootPlace v) ^ 2 = rat v := by
  rw [rootScaled, rat_scale, mul_comm 2, zpow_mul, zpow_ofNat]
  exact div_mul_cancel₀ _ (by positivity)

theorem rat_rootScaled_bounds (v : Ratio) (hn : 0 < v.num) (hd : 0 < v.den) :
    (2 ^ 63 : ℚ) ^ 2 ≤ rat (rootScaled v) ∧ rat (rootScaled v) < (2 ^ 64 : ℚ) ^ 2 := by
  obtain ⟨hlo, hhi⟩ := Ratio.floorLog2_bounds v hd hn
  have hplace : 2 * rootPlace v + 126 ≤ v.floorLog2 ∧ v.floorLog2 + 1 ≤ 2 * rootPlace v + 128 := by
    unfold rootPlace
    rw [Int.fdiv_eq_ediv_of_nonneg _ (by decide)]
    omega
  have h126 : ((2 : ℚ) ^ 63) ^ 2 * 2 ^ (2 * rootPlace v) = 2 ^ (2 * rootPlace v + 126) := by
    rw [two_zpow_add, mul_comm]
    norm_num
  have h128 : ((2 : ℚ) ^ 64) ^ 2 * 2 ^ (2 * rootPlace v) = 2 ^ (2 * rootPlace v + 128) := by
    rw [two_zpow_add, mul_comm]
    norm_num
  rw [rootScaled, rat_scale, le_div_iff₀ (two_zpow_pos _), div_lt_iff₀ (two_zpow_pos _), h126, h128]
  exact ⟨(two_zpow_le hplace.1).trans hlo, hhi.trans_le (two_zpow_le hplace.2)⟩

/-- The comparisons of `sqrtMag` are those of `roundRoot`. -/
theorem roundRoot_rat (w : Ratio) (f : Nat) (hw : 0 < w.den) :
    let half := (Ratio.ofInt ((2 * f + 1) * (2 * f + 1) : Nat)).mul (pow2 (-2))
    roundRoot (rat w) f = if half.lt w then f + 1 else if w.lt half then f else if f % 2 = 0 then f else f + 1 := by
  intro half
  have hden : 0 < half.den := Ratio.mul_den_pos _ _ Nat.one_pos (pow2_den_pos _)
  have hhalf : rat half = (2 * f + 1 : ℚ) ^ 2 / 4 := by
    rw [rat_mul, rat_ofInt, rat_pow2]
    push_cast
    ring
  simp only [roundRoot, Ratio.lt_iff _ _ hden hw, Ratio.lt_iff _ _ hw hden, hhalf]

theorem sqrtMag_eq (v : Ratio) (hd : 0 < v.den) :
    sqrtMag v = ((Ratio.ofInt (rootDigits v)).mul (pow2 (rootPlace v)),
      !(Ratio.ofInt (rootDigits v * rootDigits v : Nat)).eq (rootScaled v)) := by
  have hw := rootScaled_den_pos v hd
  rw [rootDigits, roundRoot_rat _ _ hw, ← Ratio.floor_eq _ hw]
  rfl

theorem rat_sqrtMag (v : Ratio) (hd : 0 < v.den) : rat (sqrtMag v).1 = rootDigits v * (2 : ℚ) ^ rootPlace v := by
  rw [sqrtMag_eq v hd, rat_mul, rat_ofInt, rat_pow2, Int.cast_natCast]

theorem sqrtMag_den_pos (v : Ratio) (hd : 0 < v.den) : 0 < (sqrtMag v).1.den := by
  rw [sqrtMag_eq v hd]
  exact Ratio.mul_den_pos _ _ Nat.one_pos (pow2_den_pos _)

theorem sqrtMag_inexact_iff (v : Ratio) (hd : 0 < v.den) : (sqrtMag v).2 = true ↔ rat (sqrtMag v).1 ^ 2 ≠ rat v := by
  have hsq : rat (sqrtMag v).1 ^ 2 = rat v ↔ (rootDigits v : ℚ) ^ 2 = rat (rootScaled v) := by
    rw [rat_sqrtMag v hd, ← rat_rootScaled_mul v, mul_pow, mul_left_inj' (by positivity)]
  rw [ne_eq, hsq, sqrtMag_eq v hd, Bool.not_eq_true', ← Bool.not_eq_true,
    Ratio.eq_iff _ _ Nat.one_pos (rootScaled_den_pos v hd), rat_ofInt, Int.cast_natCast, Nat.cast_mul, ← sq]

theorem rootRounds_rootDigits (v : Ratio) (hn : 0 < v.num) (hd : 0 < v.den) :
    RootRounds (rat v) (rootDigits v) (rootPlace v) := by
  obtain ⟨hlo, hhi⟩ := rat_rootScaled_bounds v hn hd
  obtain ⟨h63, h64, hsq, hsucc⟩ := isqrt_floor_bounds hlo hhi
  rw [← rat_rootScaled_mul v]
  exact rootRounds_scale (rootRounds_roundRoot h63 h64 hsq hsucc) _

/-- Settles O41: the integer root of the scaled number, rounded by the square of its half. -/
theorem squareRootNearest : Obligations.SquareRootNearest := fun v hn hd =>
  ⟨rootDigits v, rootPlace v, rootRounds_rootDigits v hn hd, by exact_mod_cast rat_sqrtMag v hd, sqrtMag_inexact_iff v hd⟩

end Sys2Proof.Machine

/-! PROOFS of the statements about the x87 numerics: the numbers that a format represents, by their bits and as results of
`Round` (46_x87_numerics R340 to R348). -/

namespace Sys2Proof.Machine

open Sys2Proof.Spec

/-! ## The parameters of a format (46_x87_numerics R341, R343, R344) -/

theorem Fmt.one_le_p (fmt : Fmt) : 1 ≤ fmt.p := by cases fmt <;> decide

theorem Fmt.emin_le_emax (fmt : Fmt) : fmt.emin ≤ fmt.emax := by cases fmt <;> decide

theorem realTop_eq (fmt : Fmt) : (realTop fmt : Int) = fmt.emax - fmt.emin + 2 := by cases fmt <;> decide

theorem Fmt.two_pow_p (fmt : Fmt) : 2 ^ fmt.p = 2 * 2 ^ (fmt.p - 1) := by
  rw [← pow_succ', Nat.sub_add_cancel fmt.one_le_p]

/-- The least count of `p` digits, in units of the last place, is the lower end of the binade. -/
theorem Fmt.two_pow_mul_ulp (fmt : Fmt) (e : Int) : ((2 ^ (fmt.p - 1) : Nat) : ℚ) * 2 ^ (e - fmt.p + 1) = 2 ^ e := by
  rw [cast_two_pow, Nat.cast_sub fmt.one_le_p, ← two_zpow_add]
  congr 1
  push_cast
  ring

theorem Fmt.two_pow_p_mul_ulp (fmt : Fmt) (e : Int) : ((2 ^ fmt.p : Nat) : ℚ) * 2 ^ (e - fmt.p + 1) = 2 ^ (e + 1) := by
  rw [fmt.two_pow_p, Nat.cast_mul, mul_assoc, fmt.two_pow_mul_ulp, two_zpow_add]
  push_cast
  ring

theorem natCast_mul_lt {n p : Nat} (k : Int) (hn : n < 2 ^ p) : (n : ℚ) * 2 ^ k < 2 ^ (p + k) := by
  rw [two_zpow_add, ← cast_two_pow]
  exact mul_lt_mul_of_pos_right (by exact_mod_cast hn) (two_zpow_pos k)

theorem natCast_mul_le {n p : Nat} (k : Int) (hn : n ≤ 2 ^ p) : (n : ℚ) * 2 ^ k ≤ 2 ^ (p + k) := by
  rw [two_zpow_add, ← cast_two_pow]
  exact mul_le_mul_of_nonneg_right (by exact_mod_cast hn) (two_zpow_pos k).le

/-! ## The numbers of a format -/

/-- The magnitudes that a format represents: up to `p` significant bits, no bit below the least denormal. -/
def FitsFmt (fmt : Fmt) (q : ℚ) : Prop :=
  ∃ (n : Nat) (k : Int), n < 2 ^ fmt.p ∧ fmt.emin - fmt.p + 1 ≤ k ∧ q = n * 2 ^ k ∧ q < 2 ^ (fmt.emax + 1)

/-- Every number of a format is one of x80 (46_x87_numerics R340). -/
theorem FitsFmt.fitsX80 {fmt : Fmt} {q : ℚ} (h : FitsFmt fmt q) : FitsX80 q := by
  obtain ⟨n, k, hn, hk, hq, hlt⟩ := h
  have hp : fmt.p ≤ 64 := by cases fmt <;> decide
  have hmin : -16445 ≤ fmt.emin - fmt.p + 1 := by cases fmt <;> decide
  have hmax : fmt.emax + 1 ≤ 16384 := by cases fmt <;> decide
  refine ⟨n, k, hn.trans_le (Nat.pow_le_pow_right two_pos hp), hmin.trans hk, hq, ?_⟩
  rw [x80Top_eq]
  exact hlt.trans_le (two_zpow_le hmax)

/-- A number of the format, in its binade, is a count of `p` digits or fewer in units of the last place. -/
theorem ulp_le {fmt : Fmt} {n : Nat} {k e : Int} (hn : n < 2 ^ fmt.p) (hlo : (2 : ℚ) ^ e ≤ n * 2 ^ k) :
    e - fmt.p + 1 ≤ k := by
  have := two_zpow_lt_iff.1 (hlo.trans_lt (natCast_mul_lt k hn))
  omega

/-- What a number of a binade rounds to, counted in units of the last place. -/
theorem digits_bounds {fmt : Fmt} {x : ℚ} {e m : Int} (hlo : (2 : ℚ) ^ e ≤ x) (hhi : x < 2 ^ (e + 1))
    (hm : Nearest (x / 2 ^ (e - fmt.p + 1)) m) : ((2 ^ (fmt.p - 1) : Nat) : Int) ≤ m ∧ m ≤ ((2 ^ fmt.p : Nat) : Int) := by
  constructor
  · apply hm.ge
    rwa [Int.cast_natCast, le_div_iff₀ (two_zpow_pos _), fmt.two_pow_mul_ulp]
  · apply hm.le
    rw [Int.cast_natCast, div_le_iff₀ (two_zpow_pos _), fmt.two_pow_p_mul_ulp]
    exact hhi.le

/-- A count of `2^p` units is one of `2^(p-1)` units twice as large. -/
theorem fitsFmt_of_digits {fmt : Fmt} {n : Nat} {k : Int} (hn : n ≤ 2 ^ fmt.p) (hlo : (2 : ℚ) ^ fmt.emin ≤ n * 2 ^ k)
    (hhi : (n : ℚ) * 2 ^ k < 2 ^ (fmt.emax + 1)) : FitsFmt fmt (n * 2 ^ k) := by
  obtain rfl | hlt := hn.eq_or_lt
  · have hk : fmt.emin ≤ fmt.p + k := two_zpow_le_iff.1 (hlo.trans (natCast_mul_le k le_rfl))
    have heq : ((2 ^ fmt.p : Nat) : ℚ) * 2 ^ k = ((2 ^ (fmt.p - 1) : Nat) : ℚ) * 2 ^ (k + 1) := by
      rw [fmt.two_pow_p, two_zpow_add]
      push_cast
      ring
    have hlt : 2 ^ (fmt.p - 1) < 2 ^ fmt.p := Nat.pow_lt_pow_right Nat.one_lt_two (Nat.sub_one_lt_of_lt fmt.one_le_p)
    exact ⟨2 ^ (fmt.p - 1), k + 1, hlt, by omega, heq, hhi⟩
  · have hk : fmt.emin < fmt.p + k := two_zpow_lt_iff.1 (hlo.trans_lt (natCast_mul_lt k hlt))
    exact ⟨n, k, hlt, by omega, rfl, hhi⟩

/-- A count of least denormals that does not reach past the least normal number. -/
theorem fitsFmt_of_tiny {fmt : Fmt} {n : Nat} (hn : n ≤ 2 ^ (fmt.p - 1)) : FitsFmt fmt (n * 2 ^ (fmt.emin - fmt.p + 1)) := by
  refine ⟨n, _, hn.trans_lt ?_, le_rfl, rfl, ?_⟩
  · exact Nat.pow_lt_pow_right Nat.one_lt_two (Nat.sub_one_lt_of_lt fmt.one_le_p)
  · calc (n : ℚ) * 2 ^ (fmt.emin - fmt.p + 1) ≤ 2 ^ fmt.emin := by
          rw [← fmt.two_pow_mul_ulp fmt.emin]
          exact mul_le_mul_of_nonneg_right (Nat.cast_le.2 hn) (two_zpow_pos _).le
      _ < 2 ^ (fmt.emax + 1) := two_zpow_lt (Int.lt_add_one_of_le fmt.emin_le_emax)

/-- A rounded number is one of the format. -/
theorem fitsFmt_of_rounds {fmt : Fmt} {x q : ℚ} {f : ExcFlags} (h : Rounds fmt x (some q) f) : FitsFmt fmt q := by
  obtain ⟨e, m, hlo, hhi, hm, hcase⟩ := h
  obtain ⟨hm1, hm2⟩ := digits_bounds hlo hhi hm
  obtain ⟨n, rfl⟩ := Int.eq_ofNat_of_zero_le ((Int.natCast_nonneg _).trans hm1)
  rw [Int.ofNat_le] at hm1 hm2
  split_ifs at hcase with hsmall hbeyond
  · obtain ⟨k, hk, hq, -⟩ := hcase
    obtain rfl := Option.some.inj hq
    have hr0 : (2 : ℚ) ^ e ≤ n * 2 ^ (e - fmt.p + 1) := by
      rw [← fmt.two_pow_mul_ulp]
      exact mul_le_mul_of_nonneg_right (by exact_mod_cast hm1) (two_zpow_pos _).le
    have hx : x ≤ 2 ^ fmt.emin := hhi.le.trans (two_zpow_le (two_zpow_lt_iff.1 (hr0.trans_lt hsmall)))
    have hx0 : 0 ≤ x := (two_zpow_pos e).le.trans hlo
    obtain ⟨j, rfl⟩ := Int.eq_ofNat_of_zero_le (hk.ge (n := 0) (by rw [Int.cast_zero]; positivity))
    have hj : (j : Int) ≤ (2 ^ (fmt.p - 1) : Nat) :=
      hk.le (by rwa [div_le_iff₀ (two_zpow_pos _), Int.cast_natCast, fmt.two_pow_mul_ulp])
    exact fitsFmt_of_tiny (Int.ofNat_le.1 hj)
  · exact absurd hcase.1 (by simp)
  · obtain rfl := Option.some.inj hcase.1
    exact fitsFmt_of_digits hm2 (not_lt.1 hsmall) (not_le.1 hbeyond)

/-- A number that is a count of units rounds to itself, whatever the unit below it. -/
theorem nearest_mul_of_le {n : Nat} {k j i : Int} (hj : j ≤ k) (hi : Nearest (n * 2 ^ k / 2 ^ j) i) :
    (i : ℚ) * 2 ^ j = n * 2 ^ k := by
  rw [← cast_shifted hj] at hi
  rw [hi.eq_of_natCast, Int.cast_natCast, cast_shifted hj, div_mul_cancel₀ _ (two_zpow_pos j).ne']

/-- A number of the format rounds to itself, with no flag (46_x87_numerics R348). -/
theorem rounds_of_fitsFmt {fmt : Fmt} {q : ℚ} {r : Option ℚ} {f : ExcFlags} (hq : FitsFmt fmt q) (h : Rounds fmt q r f) :
    r = some q ∧ f = .none := by
  obtain ⟨n, k, hn, hk, rfl, hlt⟩ := hq
  obtain ⟨e, m, hlo, hhi, hm, hcase⟩ := h
  rw [nearest_mul_of_le (ulp_le hn hlo) hm] at hcase
  split_ifs at hcase with hsmall hbeyond
  · obtain ⟨i, hi, hr, hf⟩ := hcase
    rw [nearest_mul_of_le hk hi] at hr hf
    exact ⟨hr, by simpa [ExcFlags.none] using hf⟩
  · exact absurd hbeyond hlt.not_ge
  · exact ⟨hcase.1, by simpa [ExcFlags.none] using hcase.2⟩

/-! ## `roundMag` as the relation of the statements -/

/-- `roundMag` answers a number or the infinity, by `Rounds`. -/
theorem roundMag_rounds (fmt : Fmt) (a : Ratio) (hn : 0 < a.num) (hd : 0 < a.den) :
    ∃ f, (∃ r : Ratio, 0 < r.den ∧ roundMag fmt a = (.finite r, f) ∧ Rounds fmt (rat a) (some (rat r)) f)
      ∨ (roundMag fmt a = (.infinite, f) ∧ Rounds fmt (rat a) none f) := by
  obtain ⟨hlo, hhi⟩ := Ratio.floorLog2_bounds a hd hn
  have hnear (k : Int) : Nearest (rat a / 2 ^ k) (a.scale k).rne :=
    rat_scale a k ▸ rne_nearest (a.scale k) (Ratio.scale_den_pos a k hd)
  have hm := hnear (a.floorLog2 - fmt.p + 1)
  have hk := hnear (fmt.emin - fmt.p + 1)
  obtain ⟨htiny, hinf, hnormal⟩ := roundToFormat fmt a _ _ hn hd hlo hhi hm
  by_cases hsmall : ((a.scale (a.floorLog2 - fmt.p + 1)).rne : ℚ) * 2 ^ (a.floorLog2 - fmt.p + 1) < 2 ^ fmt.emin
  · obtain ⟨r, hr, hq, heq⟩ := htiny hsmall _ hk
    refine ⟨_, .inl ⟨r, hr, heq, _, _, hlo, hhi, hm, ?_⟩⟩
    rw [if_pos hsmall]
    refine ⟨_, hk, congrArg some hq, ?_⟩
    split_ifs with hx <;> simp [hx, ExcFlags.none]
  · by_cases hbeyond : 2 ^ (fmt.emax + 1) ≤ ((a.scale (a.floorLog2 - fmt.p + 1)).rne : ℚ) * 2 ^ (a.floorLog2 - fmt.p + 1)
    · refine ⟨_, .inr ⟨hinf (not_lt.1 hsmall) hbeyond, _, _, hlo, hhi, hm, ?_⟩⟩
      rw [if_neg hsmall, if_pos hbeyond]
      exact ⟨rfl, rfl⟩
    · obtain ⟨r, hr, hq, heq⟩ := hnormal (not_lt.1 hsmall) (not_le.1 hbeyond)
      refine ⟨_, .inl ⟨r, hr, heq, _, _, hlo, hhi, hm, ?_⟩⟩
      rw [if_neg hsmall, if_neg hbeyond]
      refine ⟨congrArg some hq, ?_⟩
      split_ifs with hx <;> simp [hx, ExcFlags.none]

/-! ## The magnitude of an exponent field and a fraction (46_x87_numerics R341, R343, R344) -/

theorem realValue_zero (fmt : Fmt) (f : Nat) : realValue fmt 0 f = f * 2 ^ (fmt.emin - fmt.p + 1) := if_pos rfl

theorem realValue_of_pos (fmt : Fmt) {e : Nat} (f : Nat) (he : 1 ≤ e) :
    realValue fmt e f = (2 ^ (fmt.p - 1) + f : Nat) * 2 ^ ((e : Int) + fmt.emin - 1 - fmt.p + 1) := by
  rw [realValue, if_neg (by omega)]
  push_cast
  congr 2
  ring

theorem realValue_lt {fmt : Fmt} (e : Nat) {f : Nat} (hf : f < 2 ^ (fmt.p - 1)) : realValue fmt e f < 2 ^ (e + fmt.emin) := by
  obtain rfl | he := e.eq_zero_or_pos
  · rw [realValue_zero, Nat.cast_zero, zero_add, ← fmt.two_pow_mul_ulp fmt.emin]
    exact mul_lt_mul_of_pos_right (Nat.cast_lt.2 hf) (two_zpow_pos _)
  · have hdigits : 2 ^ (fmt.p - 1) + f < 2 ^ fmt.p := by rw [fmt.two_pow_p]; omega
    rw [realValue_of_pos fmt f he]
    exact (natCast_mul_lt _ hdigits).trans_le (two_zpow_le (by omega))

theorem le_realValue (fmt : Fmt) {e : Nat} (f : Nat) (he : 1 ≤ e) : 2 ^ (e + fmt.emin - 1) ≤ realValue fmt e f := by
  rw [realValue_of_pos fmt f he, ← fmt.two_pow_mul_ulp]
  exact mul_le_mul_of_nonneg_right (by exact_mod_cast Nat.le_add_right _ f) (two_zpow_pos _).le

theorem realValue_lt_of_lt {fmt : Fmt} {e e' f : Nat} (f' : Nat) (hf : f < 2 ^ (fmt.p - 1)) (h : e < e') :
    realValue fmt e f < realValue fmt e' f' :=
  ((realValue_lt e hf).trans_le (two_zpow_le (by omega))).trans_le (le_realValue fmt f' (by omega))

theorem realValue_fraction_injective {fmt : Fmt} {e f f' : Nat} (h : realValue fmt e f = realValue fmt e f') : f = f' := by
  unfold realValue at h
  split_ifs at h
  · exact_mod_cast mul_right_cancel₀ (two_zpow_pos _).ne' h
  · exact_mod_cast add_left_cancel (mul_right_cancel₀ (two_zpow_pos _).ne' h)

/-- Two encodings of one magnitude are the same. -/
theorem realValue_injective {fmt : Fmt} {e e' f f' : Nat} (hf : f < 2 ^ (fmt.p - 1)) (hf' : f' < 2 ^ (fmt.p - 1))
    (h : realValue fmt e f = realValue fmt e' f') : e = e' ∧ f = f' := by
  obtain hlt | rfl | hlt := lt_trichotomy e e'
  · exact absurd h (realValue_lt_of_lt f' hf hlt).ne
  · exact ⟨rfl, realValue_fraction_injective h⟩
  · exact absurd h (realValue_lt_of_lt f hf' hlt).ne'

theorem realValue_eq_zero_iff {fmt : Fmt} {e f : Nat} : realValue fmt e f = 0 ↔ e = 0 ∧ f = 0 := by
  obtain rfl | he := e.eq_zero_or_pos
  · simp [realValue_zero, (two_zpow_pos _).ne']
  · have hpos := (two_zpow_pos _).trans_le (le_realValue fmt f he)
    simp [hpos.ne', he.ne']

theorem fitsFmt_realValue {fmt : Fmt} {e f : Nat} (he : e < realTop fmt) (hf : f < 2 ^ (fmt.p - 1)) :
    FitsFmt fmt (realValue fmt e f) := by
  have htop := realTop_eq fmt
  have hlt : realValue fmt e f < 2 ^ (fmt.emax + 1) := (realValue_lt e hf).trans_le (two_zpow_le (by omega))
  obtain rfl | hpos := e.eq_zero_or_pos
  · exact realValue_zero fmt f ▸ fitsFmt_of_tiny hf.le
  · have hdigits : 2 ^ (fmt.p - 1) + f < 2 ^ fmt.p := by rw [fmt.two_pow_p]; omega
    exact ⟨_, _, hdigits, by omega, realValue_of_pos fmt f hpos, hlt⟩

/-- Every number of the format has an exponent field below the top and a fraction. -/
theorem exists_realValue {fmt : Fmt} {q : ℚ} (h : FitsFmt fmt q) :
    ∃ e f, e < realTop fmt ∧ f < 2 ^ (fmt.p - 1) ∧ realValue fmt e f = q := by
  obtain ⟨n, k, hn, hk, rfl, hlt⟩ := h
  have htop := realTop_eq fmt
  have hle := fmt.emin_le_emax
  by_cases hsmall : (n : ℚ) * 2 ^ k < 2 ^ fmt.emin
  · refine ⟨0, n * 2 ^ (k - (fmt.emin - fmt.p + 1)).toNat, by omega, ?_, ?_⟩
    · rwa [← Nat.cast_lt (α := ℚ), cast_shifted hk, div_lt_iff₀ (two_zpow_pos _), fmt.two_pow_mul_ulp]
    · rw [realValue_zero, cast_shifted hk, div_mul_cancel₀ _ (two_zpow_pos _).ne']
  · have hpos := (two_zpow_pos _).trans_le (not_lt.1 hsmall)
    obtain ⟨L, hlo, hhi⟩ : ∃ L : Int, (2 : ℚ) ^ L ≤ n * 2 ^ k ∧ (n : ℚ) * 2 ^ k < 2 ^ (L + 1) :=
      ⟨_, Int.zpow_log_le_self Nat.one_lt_two hpos, Int.lt_zpow_succ_log_self Nat.one_lt_two _⟩
    have hmin : fmt.emin ≤ L := Int.lt_add_one_iff.1 (two_zpow_lt_iff.1 ((not_lt.1 hsmall).trans_lt hhi))
    have hmax : L ≤ fmt.emax := Int.lt_add_one_iff.1 (two_zpow_lt_iff.1 (hlo.trans_lt hlt))
    have hunits := cast_shifted (n := n) (ulp_le hn hlo)
    generalize n * 2 ^ (k - (L - fmt.p + 1)).toNat = N at hunits
    have hnear : Nearest (n * 2 ^ k / 2 ^ (L - fmt.p + 1)) N := hunits ▸ nearest_intCast N
    obtain ⟨hN1, hN2⟩ := digits_bounds hlo hhi hnear
    have hN : (N : ℚ) < (2 ^ fmt.p : Nat) := by
      rwa [hunits, div_lt_iff₀ (two_zpow_pos _), fmt.two_pow_p_mul_ulp]
    have hN' : N < 2 ^ fmt.p := by exact_mod_cast hN
    rw [fmt.two_pow_p] at hN'
    refine ⟨(L - fmt.emin + 1).toNat, N - 2 ^ (fmt.p - 1), by omega, by omega, ?_⟩
    rw [realValue_of_pos fmt _ (by omega), Nat.add_sub_cancel' (by omega), hunits, Int.toNat_of_nonneg (by omega),
      show L - fmt.emin + 1 + fmt.emin - 1 - fmt.p + 1 = L - fmt.p + 1 by ring, div_mul_cancel₀ _ (two_zpow_pos _).ne']

end Sys2Proof.Machine

/-! PROOFS of the statements about the x87 numerics: what the bits of a datum determine, and the conversions between the
formats (46_x87_numerics R342 to R347, R353, R355, R378). -/

namespace Sys2Proof.Machine

open Sys2Proof.Spec

/-! ## The classes of a datum (46_x87_numerics R342) -/

theorem isFinite_of_isZero {v : F80} (h : isZero v = true) : isFinite v = true := by
  simp only [isZero, isFinite, decide_eq_true_eq] at *
  exact .inl h.1

theorem isFinite_of_isDenormal {v : F80} (h : isDenormal v = true) : isFinite v = true := by
  simp only [isDenormal, isFinite, decide_eq_true_eq] at *
  exact .inl h.1

/-- What a finite datum is not. -/
theorem not_special_of_isFinite {v : F80} (h : isFinite v = true) :
    isUnsupported v = false ∧ isInfinite v = false ∧ isNaN v = false := by
  rcases kind_of_datum v with ⟨hu, hf, hi, hn⟩ | ⟨hu, hf, hi, hn⟩ | ⟨hu, hf, hi, hn⟩ | ⟨hu, hf, hi, hn⟩
  · simp [h] at hf
  · exact ⟨hu, hi, hn⟩
  · simp [h] at hf
  · simp [h] at hf

/-- What an infinity is not. -/
theorem not_other_of_isInfinite {v : F80} (h : isInfinite v = true) :
    isUnsupported v = false ∧ isFinite v = false ∧ isNaN v = false := by
  rcases kind_of_datum v with ⟨hu, hf, hi, hn⟩ | ⟨hu, hf, hi, hn⟩ | ⟨hu, hf, hi, hn⟩ | ⟨hu, hf, hi, hn⟩
  · simp [h] at hi
  · simp [h] at hi
  · exact ⟨hu, hf, hn⟩
  · simp [h] at hi

/-- What a NaN is not. -/
theorem not_other_of_isNaN {v : F80} (h : isNaN v = true) :
    isUnsupported v = false ∧ isFinite v = false ∧ isInfinite v = false := by
  rcases kind_of_datum v with ⟨hu, hf, hi, hn⟩ | ⟨hu, hf, hi, hn⟩ | ⟨hu, hf, hi, hn⟩ | ⟨hu, hf, hi, hn⟩
  · simp [h] at hn
  · simp [h] at hn
  · simp [h] at hn
  · exact ⟨hu, hf, hi⟩

theorem classOf_of_isNaN {v : F80} (h : isNaN v = true) :
    classOf v = if isSignaling v then .signalingNaN else .quietNaN := by
  obtain ⟨hu, hf, hi⟩ := not_other_of_isNaN h
  have hz : isZero v = false := by rw [← Bool.not_eq_true]; intro hz; simp [isFinite_of_isZero hz] at hf
  have hd : isDenormal v = false := by rw [← Bool.not_eq_true]; intro hd; simp [isFinite_of_isDenormal hd] at hf
  simp [classOf_eq, hu, hf, hi, hz, hd]

/-- The class of a finite number that is not zero. -/
theorem classOf_of_isFinite {v : F80} (h : isFinite v = true) (hz : isZero v = false) :
    classOf v = if isDenormal v then .denormal else .normal := by
  simp [classOf_eq, h, hz, (not_special_of_isFinite h).1]

theorem isFinite_of_classOf_normal {v : F80} (h : classOf v = .normal) : isFinite v = true := by
  rw [classOf_eq] at h
  split_ifs at h with _ _ _ hf
  exact hf

theorem isDenormal_iff_classOf (v : F80) : classOf v = .denormal ↔ isDenormal v = true := by
  rw [← classOf_denormal, decide_eq_true_eq]

/-! ## A datum by its fields (46_x87_numerics R341) -/

theorem expField_eq (v : F80) : expField v = v.toNat / 2 ^ 64 % 2 ^ 15 := by
  simp [expField, BitVec.extractLsb'_toNat, Nat.shiftRight_eq_div_pow]

theorem sigField_eq (v : F80) : sigField v = v.toNat % 2 ^ 64 := by
  simp [sigField, BitVec.extractLsb'_toNat]

theorem negative_eq (v : F80) : negative v = decide (v.toNat / 2 ^ 79 % 2 = 1) := by
  rw [negative, BitVec.getLsbD, Nat.testBit_eq_decide_div_mod_eq]

theorem eq_of_fields {v w : F80} (hs : negative v = negative w) (he : expField v = expField w)
    (hg : sigField v = sigField w) : v = w := by
  rw [negative_eq, negative_eq, decide_eq_decide] at hs
  rw [expField_eq, expField_eq] at he
  rw [sigField_eq, sigField_eq] at hg
  have hv := v.isLt
  have hw := w.isLt
  apply BitVec.eq_of_toNat_eq
  omega

theorem negative_quiet (v : F80) : negative (quiet v) = negative v := by
  simp [negative, quiet]

theorem expField_quiet (v : F80) : expField (quiet v) = expField v := by
  rw [expField, quiet, BitVec.extractLsb'_or, show (0x4000000000000000 : F80).extractLsb' 64 15 = 0#15 by decide, BitVec.or_zero]
  rfl

theorem sigField_quiet (v : F80) : sigField (quiet v) = sigField v ||| 2 ^ 62 := by
  rw [sigField, quiet, BitVec.extractLsb'_or, BitVec.toNat_or]
  rfl

/-! ## The encoding of a number is unique (46_x87_numerics R346) -/

/-- A finite datum that is no pseudo-denormal: its integer bit is set exactly in a normal number. -/
theorem sigField_of_proper {v : F80} (hf : isFinite v = true) (hp : expField v = 0 → v.getLsbD 63 = false) :
    sigField v = (if expField v = 0 then 0 else 2 ^ 63) + sigField v % 2 ^ 63 := by
  have hlt := sigField_lt v
  rw [integerBit_eq, decide_eq_false_iff_not] at hp
  rw [isFinite, integerBit_eq, decide_eq_true_eq, decide_eq_true_eq] at hf
  split_ifs with he
  · have := hp he
    omega
  · omega

/-- The magnitude of such a datum, by its exponent field and its fraction. -/
theorem abs_value_of_proper {v : F80} (hf : isFinite v = true) (hp : expField v = 0 → v.getLsbD 63 = false) :
    |value v| = realValue .x80 (expField v) (sigField v % 2 ^ 63) := by
  rw [abs_value]
  have hsig := sigField_of_proper hf hp
  obtain he | he := (expField v).eq_zero_or_pos
  · rw [if_pos he, zero_add] at hsig
    rw [he, realValue_zero, ← hsig]
    rfl
  · rw [if_neg he.ne'] at hsig
    rw [realValue_of_pos .x80 _ he, max_eq_left he]
    conv_lhs => rw [hsig]
    rw [show ((expField v : Int) + Fmt.x80.emin - 1 - Fmt.x80.p + 1) = expField v - 16446 by
      rw [show Fmt.x80.emin = -16382 from rfl, show Fmt.x80.p = 64 from rfl]; ring]
    rfl

theorem encodes_unique {s : Bool} {q : ℚ} {v w : F80} (hv : Encodes s (some q) v) (hw : Encodes s (some q) w) : v = w := by
  obtain ⟨hvf, hvp, hvs, hvq⟩ := hv
  obtain ⟨hwf, hwp, hws, hwq⟩ := hw
  have heq := hvq.trans hwq.symm
  rw [abs_value_of_proper hvf hvp, abs_value_of_proper hwf hwp] at heq
  obtain ⟨he, hf⟩ := realValue_injective (fmt := .x80) (Nat.mod_lt _ (by decide)) (Nat.mod_lt _ (by decide)) heq
  refine eq_of_fields (hvs.trans hws.symm) he ?_
  rw [sigField_of_proper hvf hvp, sigField_of_proper hwf hwp, he]
  exact congrArg _ hf

theorem encodes_self {v : F80} (hf : isFinite v = true) (hp : expField v = 0 → v.getLsbD 63 = false) :
    Encodes (negative v) (some |value v|) v :=
  ⟨hf, hp, rfl, rfl⟩

/-- The value of every finite datum, a pseudo-denormal too, is a number of x80. -/
theorem fitsFmt_value {v : F80} (h : isFinite v = true) : FitsFmt .x80 |value v| := by
  have hlt := natCast_mul_lt (((max (expField v) 1 : Nat) : Int) - 16446) (sigField_lt v)
  have hexp : max (expField v) 1 ≤ 32766 := by
    rw [isFinite, decide_eq_true_eq] at h
    omega
  refine ⟨sigField v, _, sigField_lt v, ?_, abs_value v, ?_⟩
  · rw [show Fmt.x80.emin = -16382 from rfl, show Fmt.x80.p = 64 from rfl]
    omega
  · rw [abs_value]
    refine hlt.trans_le (two_zpow_le ?_)
    rw [show Fmt.x80.emax = 16383 from rfl]
    omega

/-- What the encoder gives for a number, in the words of the statements. -/
theorem encodes_encX80 (s : Bool) {v : Ratio} {q : ℚ} (hd : 0 < v.den) (hq : rat v = q) (h : FitsX80 q) :
    Encodes s (some q) (encX80 s v) := by
  subst hq
  exact encX80_encodes s v hd h

/-- A zero, a normal number or a proper denormal is the encoding of its own sign and value. -/
theorem encX80_valOf {v : F80} (hf : isFinite v = true) (hp : expField v = 0 → v.getLsbD 63 = false) :
    encX80 (signOf v) (valOf v).abs = v :=
  encodes_unique (encodes_encX80 (negative v) (valOf_den_pos v) (by rw [rat_abs, rat_valOf]) (fitsFmt_value hf).fitsX80)
    (encodes_self hf hp)

theorem proper_of_classOf {v : F80}
    (h : classOf v = .zero ∨ classOf v = .normal ∨ (classOf v = .denormal ∧ v.getLsbD 63 = false)) :
    isFinite v = true ∧ (expField v = 0 → v.getLsbD 63 = false) := by
  obtain hz | hn | ⟨hd, hj⟩ := h
  · rw [classOf_zero] at hz
    refine ⟨isFinite_of_isZero hz, fun _ => ?_⟩
    rw [isZero, decide_eq_true_eq] at hz
    rw [integerBit_eq, hz.2]
    rfl
  · refine ⟨isFinite_of_classOf_normal hn, fun he => ?_⟩
    change expOf v = 0 at he
    rw [classOf, if_pos he] at hn
    split_ifs at hn
  · exact ⟨isFinite_of_isDenormal ((isDenormal_iff_classOf v).1 hd), fun _ => hj⟩

/-! ## Integers (46_x87_numerics R345, R347) -/

theorem fitsX80_natCast {n : Nat} (h : n < 2 ^ 64) : FitsX80 n := by
  refine ⟨n, 0, h, by decide, by rw [zpow_zero, mul_one], ?_⟩
  have hlt := natCast_mul_lt 0 h
  rw [zpow_zero, mul_one] at hlt
  exact hlt.trans (two_zpow_lt_x80Top (by decide))

theorem encodes_ofInt (s : Bool) {i : Int} (h : FitsX80 |(i : ℚ)|) :
    Encodes s (some |(i : ℚ)|) (encX80 s (Ratio.ofInt i.natAbs)) :=
  encodes_encX80 s Nat.one_pos (by rw [rat_ofInt, Int.cast_natCast, Nat.cast_natAbs, Int.cast_abs]) h

theorem fitsX80_intCast {i : Int} (h : i.natAbs < 2 ^ 64) : FitsX80 |(i : ℚ)| := by
  rw [← Int.cast_abs, ← Nat.cast_natAbs]
  exact fitsX80_natCast h

/-! ## Data of b32 and b64 by their bits (46_x87_numerics R343, R344) -/

/-- The significand of a NaN widened. -/
theorem widened_payload {fmt : Fmt} {f : Nat} (hf : f < 2 ^ (fmt.p - 1)) : 2 ^ 63 + f * 2 ^ (64 - fmt.p) < 2 ^ 64
    ∧ (2 ^ 63 + f * 2 ^ (64 - fmt.p)) ||| 2 ^ 62 = 2 ^ 63 ||| 2 ^ 62 ||| f * 2 ^ (64 - fmt.p) := by
  have hlt : f * 2 ^ (64 - fmt.p) < 2 ^ 63 := by
    have h63 : 2 ^ (fmt.p - 1) * 2 ^ (64 - fmt.p) = 2 ^ 63 := by cases fmt <;> decide
    rw [← h63]
    exact Nat.mul_lt_mul_of_pos_right hf (Nat.two_pow_pos _)
  refine ⟨by omega, ?_⟩
  have hadd := Nat.two_pow_add_eq_or_of_lt hlt 1
  rw [mul_one] at hadd
  rw [hadd, Nat.lor_assoc, Nat.lor_comm _ (2 ^ 62), Nat.lor_assoc]

theorem realTop_def (fmt : Fmt) : realTop fmt = 2 ^ fmt.ebits - 1 := rfl

section

variable {fmt : Fmt} {n : Nat} (hn : n = fmt.ebits + fmt.p)
include hn

theorem realParts_eq (w : BitVec n) :
    realParts fmt w = (decide (w.toNat / 2 ^ (fmt.ebits + (fmt.p - 1)) % 2 = 1), w.toNat / 2 ^ (fmt.p - 1) % 2 ^ fmt.ebits,
      w.toNat % 2 ^ (fmt.p - 1)) := by
  have hp := fmt.one_le_p
  have hsign : w.msb = decide (w.toNat / 2 ^ (fmt.ebits + (fmt.p - 1)) % 2 = 1) := by
    rw [BitVec.msb_eq_getLsbD_last, BitVec.getLsbD, Nat.testBit_eq_decide_div_mod_eq,
      show n - 1 = fmt.ebits + (fmt.p - 1) by omega]
  simp [realParts, hsign, BitVec.extractLsb'_toNat, Nat.shiftRight_eq_div_pow]

theorem realParts_lt {w : BitVec n} {s : Bool} {e f : Nat} (h : realParts fmt w = (s, e, f)) :
    e < 2 ^ fmt.ebits ∧ f < 2 ^ (fmt.p - 1) := by
  rw [realParts_eq hn, Prod.mk.injEq, Prod.mk.injEq] at h
  obtain ⟨-, rfl, rfl⟩ := h
  exact ⟨Nat.mod_lt _ (Nat.two_pow_pos _), Nat.mod_lt _ (Nat.two_pow_pos _)⟩

/-- The bits that a sign, an exponent field and a fraction make. -/
theorem exists_realParts (s : Bool) {e f : Nat} (he : e < 2 ^ fmt.ebits) (hf : f < 2 ^ (fmt.p - 1)) :
    ∃ w : BitVec n, w.toNat = s.toNat * 2 ^ (fmt.ebits + (fmt.p - 1)) + e * 2 ^ (fmt.p - 1) + f
      ∧ realParts fmt w = (s, e, f) := by
  have hp := fmt.one_le_p
  have hwidth : 2 ^ n = 2 ^ fmt.ebits * 2 ^ (fmt.p - 1) + 2 ^ fmt.ebits * 2 ^ (fmt.p - 1) := by
    rw [← pow_add, ← two_mul, ← pow_succ', show fmt.ebits + (fmt.p - 1) + 1 = n by omega]
  have hbound : (e + 1) * 2 ^ (fmt.p - 1) ≤ 2 ^ fmt.ebits * 2 ^ (fmt.p - 1) := Nat.mul_le_mul_right _ he
  have hsign : s.toNat * (2 ^ fmt.ebits * 2 ^ (fmt.p - 1)) ≤ 2 ^ fmt.ebits * 2 ^ (fmt.p - 1) :=
    (Nat.mul_le_mul_right _ s.toNat_le).trans_eq (one_mul _)
  have hlt : s.toNat * 2 ^ (fmt.ebits + (fmt.p - 1)) + e * 2 ^ (fmt.p - 1) + f < 2 ^ n := by
    rw [pow_add, hwidth]
    linarith
  refine ⟨BitVec.ofNatLT _ hlt, BitVec.toNat_ofNatLT _ _, ?_⟩
  have hsplit : s.toNat * 2 ^ (fmt.ebits + (fmt.p - 1)) + e * 2 ^ (fmt.p - 1) + f
      = f + 2 ^ (fmt.p - 1) * (e + 2 ^ fmt.ebits * s.toNat) := by
    rw [pow_add]
    ring
  rw [realParts_eq hn, BitVec.toNat_ofNatLT, hsplit, pow_add, mul_comm (2 ^ fmt.ebits) (2 ^ (fmt.p - 1)),
    ← Nat.div_div_eq_div_mul, Nat.add_mul_div_left _ _ (Nat.two_pow_pos _), Nat.div_eq_of_lt hf, zero_add,
    Nat.add_mul_div_left _ _ (Nat.two_pow_pos _), Nat.div_eq_of_lt he, Nat.add_mul_mod_self_left,
    Nat.add_mul_mod_self_left, Nat.mod_eq_of_lt he, Nat.mod_eq_of_lt hf]
  cases s <;> rfl

/-- The parts determine the bits. -/
theorem realParts_injective {w w' : BitVec n} (h : realParts fmt w = realParts fmt w') : w = w' := by
  have hp := fmt.one_le_p
  have hsign (w : BitVec n) : w.toNat / 2 ^ (fmt.ebits + (fmt.p - 1)) < 2 := by
    rw [Nat.div_lt_iff_lt_mul (Nat.two_pow_pos _), ← pow_succ', show fmt.ebits + (fmt.p - 1) + 1 = n by omega]
    exact w.isLt
  have hparts (w : BitVec n) : w.toNat = 2 ^ (fmt.p - 1) * (2 ^ fmt.ebits * (w.toNat / 2 ^ (fmt.ebits + (fmt.p - 1)))
      + w.toNat / 2 ^ (fmt.p - 1) % 2 ^ fmt.ebits) + w.toNat % 2 ^ (fmt.p - 1) := by
    rw [pow_add, mul_comm (2 ^ fmt.ebits) (2 ^ (fmt.p - 1)), ← Nat.div_div_eq_div_mul, Nat.div_add_mod, Nat.div_add_mod]
  rw [realParts_eq hn, realParts_eq hn, Prod.mk.injEq, Prod.mk.injEq, decide_eq_decide] at h
  obtain ⟨hs, he, hf⟩ := h
  have hs' : w.toNat / 2 ^ (fmt.ebits + (fmt.p - 1)) = w'.toNat / 2 ^ (fmt.ebits + (fmt.p - 1)) := by
    have h2 := hsign w
    have h2' := hsign w'
    generalize w.toNat / 2 ^ (fmt.ebits + (fmt.p - 1)) = a at *
    generalize w'.toNat / 2 ^ (fmt.ebits + (fmt.p - 1)) = b at *
    omega
  apply BitVec.eq_of_toNat_eq
  rw [hparts w, hparts w', hs', he, hf]

/-! ## `Widen` (46_x87_numerics R347) -/

/-- A number widened is that number. -/
theorem widen_number {w : BitVec n} {s : Bool} {e f : Nat} (h : realParts fmt w = (s, e, f)) (he : e < realTop fmt) :
    Encodes s (some (realValue fmt e f)) (widen fmt w.toNat).x ∧ (widen fmt w.toNat).denormal = decide (e = 0 ∧ f ≠ 0)
      ∧ (widen fmt w.toNat).exc = .none := by
  have hfits := (fitsFmt_realValue he (realParts_lt hn h).2).fitsX80
  rw [realParts_eq hn, Prod.mk.injEq, Prod.mk.injEq] at h
  obtain ⟨hs, he', hf⟩ := h
  unfold widen
  simp only [hs, he', hf, ← realTop_def, if_neg he.ne]
  split_ifs with hzero
  · subst hzero
    refine ⟨encodes_encX80 s (Ratio.mul_den_pos _ _ Nat.one_pos (pow2_den_pos _)) ?_ hfits, by simp, rfl⟩
    rw [rat_mul, rat_ofInt, rat_pow2, realValue_zero, Int.cast_natCast]
  · refine ⟨encodes_encX80 s (Ratio.mul_den_pos _ _ Nat.one_pos (pow2_den_pos _)) ?_ hfits, by simp [hzero], rfl⟩
    rw [rat_mul, rat_ofInt, rat_pow2, realValue, if_neg hzero]
    push_cast
    rfl

theorem widen_infinity {w : BitVec n} {s : Bool} (h : realParts fmt w = (s, realTop fmt, 0)) :
    widen fmt w.toNat = { x := infinityOf s, denormal := false, exc := .none } := by
  have htop : realTop fmt ≠ 0 := by cases fmt <;> decide
  rw [realParts_eq hn, Prod.mk.injEq, Prod.mk.injEq] at h
  obtain ⟨hs, he, hf⟩ := h
  unfold widen
  simp only [hs, he, hf, ← realTop_def, if_neg htop, if_true, infF_eq_infinityOf]

/-- A NaN widened is quieted, its payload left-aligned. -/
theorem widen_nan {w : BitVec n} {s : Bool} {f : Nat} (h : realParts fmt w = (s, realTop fmt, f)) (hf0 : f ≠ 0) :
    negative (widen fmt w.toNat).x = s ∧ expField (widen fmt w.toNat).x = 0x7FFF
      ∧ sigField (widen fmt w.toNat).x = 2 ^ 63 ||| 2 ^ 62 ||| f * 2 ^ (64 - fmt.p) ∧ (widen fmt w.toNat).denormal = false
      ∧ (widen fmt w.toNat).exc = { ExcFlags.none with IE := decide (f < 2 ^ (fmt.p - 2)) } := by
  have htop : realTop fmt ≠ 0 := by cases fmt <;> decide
  obtain ⟨hlt, hor⟩ := widened_payload (realParts_lt hn h).2
  rw [realParts_eq hn, Prod.mk.injEq, Prod.mk.injEq] at h
  obtain ⟨hs, he, hf⟩ := h
  unfold widen
  simp only [hs, he, hf, ← realTop_def, if_neg htop, if_true, if_neg hf0]
  refine ⟨?_, ?_, ?_, trivial, ?_⟩
  · rw [negative_quiet, negative_mkF80]
  · rw [expField_quiet, expField_mkF80 _ _ _ (by decide)]
  · rw [sigField_quiet, sigField_mkF80 _ _ _ hlt, hor]
  · by_cases hq : f < 2 ^ (fmt.p - 2) <;> simp [hq, invalidOp, ExcFlags.none]

theorem widenOf (w : BitVec n) : WidenOf fmt w (widen fmt w.toNat) := by
  obtain ⟨s, e, f, h⟩ : ∃ s e f, realParts fmt w = (s, e, f) := ⟨_, _, _, rfl⟩
  unfold WidenOf
  rw [h]
  dsimp only
  split_ifs with hnan hinf
  · obtain ⟨rfl, hf⟩ := hnan
    exact widen_nan hn h hf
  · obtain rfl : f = 0 := by simpa [hinf] using hnan
    exact widen_infinity hn (hinf ▸ h)
  · have he : e < 2 ^ fmt.ebits := (realParts_lt hn h).1
    exact widen_number hn h (by unfold realTop at hinf ⊢; omega)

end

end Sys2Proof.Machine

/-! PROOFS of the statements about the x87 numerics: `Narrow`, and what the conversions keep
(46_x87_numerics R353, R355, R356, R378). -/

namespace Sys2Proof.Machine

open Sys2Proof.Spec

/-! ## The bits of a number, an infinity, a NaN -/

theorem floor_scale_toNat {r : Ratio} {n : Nat} {k : Int} (hd : 0 < r.den) (h : rat r = n * 2 ^ k) :
    (r.scale k).floor.toNat = n := by
  rw [Ratio.floor_eq _ (Ratio.scale_den_pos r k hd), rat_scale, h, mul_div_cancel_right₀ _ (two_zpow_pos k).ne',
    Int.floor_natCast, Int.toNat_natCast]

/-- The bits of a number of the format, by its exponent field and fraction. -/
theorem encBits_of_realValue {fmt : Fmt} (s : Bool) {r : Ratio} {e f : Nat} (hd : 0 < r.den) (hf : f < 2 ^ (fmt.p - 1))
    (hr : rat r = realValue fmt e f) :
    encBits fmt s r = s.toNat * 2 ^ (fmt.ebits + (fmt.p - 1)) + e * 2 ^ (fmt.p - 1) + f := by
  unfold encBits
  simp only [Ratio.isZero_iff r hd, Ratio.lt_iff r _ hd (pow2_den_pos _), rat_pow2, hr, realValue_eq_zero_iff]
  obtain rfl | he := e.eq_zero_or_pos
  · have hlt := realValue_lt 0 hf
    rw [Nat.cast_zero, zero_add] at hlt
    rw [realValue_zero] at hr
    simp only [if_pos hlt, floor_scale_toNat hd hr, true_and, zero_mul, add_zero]
    split_ifs with hzero
    · rw [hzero, add_zero]
    · rfl
  · have hlo := le_realValue fmt f he
    have hhi := realValue_lt e hf
    have hge : ¬realValue fmt e f < 2 ^ fmt.emin := not_lt.2 ((two_zpow_le (by omega)).trans hlo)
    have hlog : r.floorLog2 = e + fmt.emin - 1 := by
      refine Ratio.floorLog2_eq ((Ratio.num_pos_iff r hd).2 ?_) hd (hr ▸ hlo) ?_
      · rw [hr]
        exact (two_zpow_pos _).trans_le hlo
      · rwa [hr, sub_add_cancel]
    have hexp : ((e : Int) + fmt.emin - 1 + fmt.emax).toNat = e := by
      rw [Fmt.emin]
      omega
    rw [realValue_of_pos fmt f he] at hr
    simp only [if_neg hge, hlog, hexp, floor_scale_toNat hd hr, he.ne', false_and, if_false, Nat.add_sub_cancel_left]

/-! ## `narrow` of a number, by what its magnitude rounds to -/

theorem num_abs_valOf_pos {v : F80} (hf : isFinite v = true) (hz : isZero v = false) : 0 < (valOf v).abs.num := by
  rw [Ratio.num_pos_iff (valOf v).abs (valOf_den_pos v), rat_abs, rat_valOf, abs_pos, ne_eq, value_eq_zero_of_finite v hf, hz]
  decide

section

variable {fmt : Fmt} {v : F80} {x : ExcFlags} (hf : isFinite v = true) (hz : isZero v = false)
include hf hz

theorem narrow_finite {r : Ratio} (hmag : roundMag fmt (valOf v).abs = (.finite r, x)) :
    narrow fmt v = (encBits fmt (negative v) r, x) := by
  rw [narrow, classOf_of_isFinite hf hz]
  cases isDenormal v <;> simp only [hmag, Bool.false_eq_true, if_true, if_false] <;> rfl

theorem narrow_infinite (hmag : roundMag fmt (valOf v).abs = (.infinite, x)) :
    narrow fmt v = (infBits fmt (negative v), x) := by
  rw [narrow, classOf_of_isFinite hf hz]
  cases isDenormal v <;> simp only [hmag, Bool.false_eq_true, if_true, if_false] <;> rfl

end

section

variable {fmt : Fmt} {n : Nat} (hn : n = fmt.ebits + fmt.p)
include hn

theorem exists_realParts_encBits (s : Bool) {r : Ratio} {q : ℚ} (hd : 0 < r.den) (hr : rat r = q) (h : FitsFmt fmt q) :
    ∃ w : BitVec n, encBits fmt s r = w.toNat
      ∧ ∃ e f, realParts fmt w = (s, e, f) ∧ e < realTop fmt ∧ realValue fmt e f = q := by
  obtain ⟨e, f, he, hf, hq⟩ := exists_realValue h
  obtain ⟨w, hw, hparts⟩ := exists_realParts hn s (he.trans_le (Nat.sub_le _ 1)) hf
  exact ⟨w, (encBits_of_realValue s hd hf (hr.trans hq.symm)).trans hw.symm, e, f, hparts, he, hq⟩

/-- The bits with the exponent field at the top. -/
theorem exists_realParts_top (s : Bool) {f : Nat} (hf : f < 2 ^ (fmt.p - 1)) :
    ∃ w : BitVec n, infBits fmt s + f = w.toNat ∧ realParts fmt w = (s, realTop fmt, f) := by
  obtain ⟨w, hw, hparts⟩ := exists_realParts hn s (Nat.sub_lt (Nat.two_pow_pos fmt.ebits) Nat.one_pos) hf
  exact ⟨w, hw.symm, hparts⟩

theorem exists_realParts_nanBits (v : F80) :
    ∃ w : BitVec n, nanBits fmt v = w.toNat
      ∧ realParts fmt w = (negative v, realTop fmt, (sigField v ||| 2 ^ 62) / 2 ^ (64 - fmt.p) % 2 ^ (fmt.p - 1)) := by
  have h63 : 2 ^ 63 = 2 ^ (64 - fmt.p) * 2 ^ (fmt.p - 1) := by cases fmt <;> decide
  obtain ⟨w, hw, hparts⟩ := exists_realParts_top hn (negative v)
    (Nat.mod_lt ((sigField v ||| 2 ^ 62) / 2 ^ (64 - fmt.p)) (Nat.two_pow_pos (fmt.p - 1)))
  refine ⟨w, ?_, hparts⟩
  rw [← hw, nanBits, show sigOf (quiet v) = sigField (quiet v) from rfl, sigField_quiet, h63, Nat.mod_mul_right_div_self]
  rfl

/-! ## `Narrow` (46_x87_numerics R378) -/

theorem narrowOf (v : F80) : NarrowOf fmt n v (narrow fmt v) := by
  unfold NarrowOf
  have hpos := Nat.two_pow_pos (fmt.p - 1)
  rcases kind_of_datum v with ⟨hu, hf, hi, hnan⟩ | ⟨hu, hf, hi, hnan⟩ | ⟨hu, hf, hi, hnan⟩ | ⟨hu, hf, hi, hnan⟩
  case inl =>
    obtain ⟨w, hw, hparts⟩ := exists_realParts_nanBits hn indefinite
    have hq : (sigField indefinite ||| 2 ^ 62) / 2 ^ (64 - fmt.p) % 2 ^ (fmt.p - 1) = 2 ^ (fmt.p - 2) := by
      cases fmt <;> decide
    rw [narrow, (classOf_unsupported v).2 hu]
    refine ⟨w, hw, ?_⟩
    rw [if_pos hu, hparts, hq]
    exact ⟨rfl, rfl⟩
  case inr.inr.inr =>
    obtain ⟨w, hw, hparts⟩ := exists_realParts_nanBits hn v
    rw [narrow, classOf_of_isNaN hnan]
    cases hs : isSignaling v <;> exact ⟨w, hw, by simpa [hu, hnan, hs] using ⟨hparts, rfl⟩⟩
  case inr.inr.inl =>
    obtain ⟨w, hw, hparts⟩ := exists_realParts_top hn (negative v) hpos
    rw [narrow, (classOf_infinity v).2 hi]
    exact ⟨w, hw, by simpa [hu, hnan, hi] using hparts⟩
  case inr.inl =>
    simp only [hu, hnan, hi, Bool.false_eq_true, if_false]
    cases hz : isZero v with
    | true =>
      obtain ⟨w, hw, hparts⟩ := exists_realParts hn (negative v) (Nat.two_pow_pos fmt.ebits) hpos
      rw [narrow, (classOf_zero v).2 hz]
      exact ⟨w, by rw [hw, zero_mul]; rfl, hparts, rfl⟩
    | false =>
      obtain ⟨x, ⟨r, hd, hmag, hround⟩ | ⟨hmag, hround⟩⟩ :=
        roundMag_rounds fmt (valOf v).abs (num_abs_valOf_pos hf hz) (valOf_den_pos v)
      · rw [rat_abs, rat_valOf] at hround
        obtain ⟨w, hw, hparts⟩ := exists_realParts_encBits hn (negative v) hd rfl (fitsFmt_of_rounds hround)
        rw [narrow_finite hf hz hmag]
        exact ⟨w, hw, _, hround, hparts⟩
      · rw [rat_abs, rat_valOf] at hround
        obtain ⟨w, hw, hparts⟩ := exists_realParts_top hn (negative v) hpos
        rw [narrow_infinite hf hz hmag]
        exact ⟨w, hw, _, hround, hparts⟩

/-- What `Narrow` gives for a number of the format, not rounded. -/
theorem narrow_of_encodes {s : Bool} {e f : Nat} {v : F80} (he : e < realTop fmt) (hf : f < 2 ^ (fmt.p - 1))
    (h : Encodes s (some (realValue fmt e f)) v) :
    ∃ w : BitVec n, narrow fmt v = (w.toNat, .none) ∧ realParts fmt w = (s, e, f) := by
  obtain ⟨hfin, -, rfl, hq⟩ := h
  obtain ⟨hu, hi, hnan⟩ := not_special_of_isFinite hfin
  obtain ⟨w, hw, hcase⟩ := narrowOf hn v
  simp only [hu, hi, hnan, Bool.false_eq_true, if_false] at hcase
  split_ifs at hcase with hz
  · obtain ⟨hparts, hflags⟩ := hcase
    rw [(value_eq_zero_of_finite v hfin).2 hz, abs_zero] at hq
    obtain ⟨rfl, rfl⟩ := realValue_eq_zero_iff.1 hq.symm
    exact ⟨w, Prod.ext hw hflags, hparts⟩
  · obtain ⟨r, hround, hparts⟩ := hcase
    rw [hq] at hround
    obtain ⟨rfl, hflags⟩ := rounds_of_fitsFmt (fitsFmt_realValue he hf) hround
    obtain ⟨e', f', hparts, -, heq⟩ := hparts
    obtain ⟨rfl, rfl⟩ := realValue_injective (realParts_lt hn hparts).2 hf heq
    exact ⟨w, Prod.ext hw hflags, hparts⟩

/-- A datum that is no NaN survives widening and narrowing. -/
theorem narrow_widen {w : BitVec n} {s : Bool} {e f : Nat} (h : realParts fmt w = (s, e, f))
    (hnan : ¬(e = realTop fmt ∧ f ≠ 0)) : narrow fmt (widen fmt w.toNat).x = (w.toNat, .none) := by
  obtain ⟨he, hf⟩ := realParts_lt hn h
  obtain ⟨w', hw', hparts⟩ : ∃ w' : BitVec n, narrow fmt (widen fmt w.toNat).x = (w'.toNat, .none)
      ∧ realParts fmt w' = (s, e, f) := by
    by_cases htop : e = realTop fmt
    · obtain rfl : f = 0 := by simpa [htop] using hnan
      subst htop
      have hi : isInfinite (infinityOf s) = true := by cases s <;> decide
      have hs : signOf (infinityOf s) = s := by cases s <;> decide
      obtain ⟨w', hw', hparts⟩ := exists_realParts_top hn s hf
      rw [widen_infinity hn h, narrow, (classOf_infinity _).2 hi]
      simp only [hs]
      exact ⟨w', congrArg (·, ExcFlags.none) hw', hparts⟩
    · rw [realTop_def] at htop
      have he' : e < realTop fmt := by rw [realTop_def]; omega
      exact narrow_of_encodes hn he' hf (widen_number hn h he').1
  rw [hw', realParts_injective hn (hparts.trans h.symm)]

end

/-- Settles O39: the encoding of a number is unique; numbers of a format are not rounded. -/
theorem exactValuesSurvive : Obligations.ExactValuesSurvive := by
  refine ⟨fun v h => ?_, fun w h => ?_, fun w h => ?_, widenOf rfl, widenOf rfl, fun i hlo hhi => ?_,
    narrowOf rfl, narrowOf rfl⟩
  · obtain ⟨hf, hp⟩ := proper_of_classOf h
    exact encX80_valOf hf hp
  · exact narrow_widen rfl rfl h
  · exact narrow_widen rfl rfl h
  · have hi : i.natAbs < 2 ^ 64 := by omega
    exact ⟨encodes_ofInt _ (fitsX80_intCast hi), rfl, rfl⟩

end Sys2Proof.Machine

/-! PROOFS of the statements about the x87 numerics: what each operation gives, on every datum (46_x87_numerics R370 to R377),
from the checks of its operands, the exact result, and its rounding. -/

namespace Sys2Proof.Machine

open Sys2Proof.Spec

/-! ## An exact result rounded -/

/-- A rational that is not zero, rounded and encoded with a sign. -/
theorem roundF_roundsTo (fmt : Fmt) (s : Bool) (d : ExcFlags) {v : Ratio} {q : ℚ} (hd : 0 < v.den) (hq : rat v = q)
    (h0 : q ≠ 0) : RoundsTo fmt q s d ((roundF fmt s v).1, d.or (roundF fmt s v).2) := by
  subst hq
  have hn : 0 < v.abs.num := by rwa [Ratio.num_pos_iff v.abs hd, rat_abs, abs_pos]
  obtain ⟨f, ⟨r, hr, hmag, hround⟩ | ⟨hmag, hround⟩⟩ := roundMag_rounds fmt v.abs hn hd
  · rw [rat_abs] at hround
    rw [roundF, hmag]
    exact ⟨_, f, hround, encX80_encodes s r hr (fitsFmt_of_rounds hround).fitsX80, rfl⟩
  · rw [rat_abs] at hround
    rw [roundF, hmag]
    exact ⟨_, f, hround, infF_eq_infinityOf s, rfl⟩

/-! ## `Add`, `Sub`, `Mul`, `Div` (46_x87_numerics R349, R363, R370 to R373) -/

/-- A number is finite or infinite. -/
theorem isFinite_of_number {v : F80} (h : isFinite v = true ∨ isInfinite v = true) (hi : isInfinite v = false) :
    isFinite v = true :=
  h.resolve_right (by simp [hi])

theorem value_ne_zero {v : F80} (hf : isFinite v = true) (hz : isZero v = false) : value v ≠ 0 := by
  simp [value_eq_zero_of_finite v hf, hz]

theorem value_nonpos {v : F80} (h : negative v = true) : value v ≤ 0 :=
  not_lt.1 fun hpos => by simp [nonnegative_of_value_pos v hpos] at h

theorem value_nonneg {v : F80} (h : negative v = false) : 0 ≤ value v :=
  not_lt.1 fun hneg => by simp [negative_of_value_neg v hneg] at h

theorem isZero_of_isInfinite {v : F80} (h : isInfinite v = true) : isZero v = false := by
  have hf := (not_other_of_isInfinite h).2.1
  rw [← Bool.not_eq_true]
  exact fun hz => by simp [isFinite_of_isZero hz] at hf

/-- The second operand of a sum or a difference. -/
theorem rat_addend (minus : Bool) (v : F80) :
    rat (if (negative v ^^ minus) = signOf v then valOf v else (valOf v).neg) = if minus then -value v else value v := by
  have hs : signOf v = negative v := rfl
  cases minus <;> simp [hs, rat_valOf, rat_neg]

/-- Two operands taken as negative or zero have the sum zero only when both are zero (46_x87_numerics R349). -/
theorem zero_of_add_eq_zero {minus : Bool} {v w : F80} (hv : isFinite v = true) (hw : isFinite w = true)
    (h : value v + (if minus then -value w else value w) = 0) (hsv : negative v = true) (hsw : (negative w ^^ minus) = true) :
    isZero v = true ∧ isZero w = true := by
  have h1 := value_nonpos hsv
  have h2 : (if minus then -value w else value w) ≤ 0 := by
    cases minus with
    | false => exact value_nonpos (by simpa using hsw)
    | true => simpa using value_nonneg (v := w) (by simpa using hsw)
  have hv0 : value v = 0 := by linarith
  have hw0 : (if minus then -value w else value w) = 0 := by linarith
  refine ⟨(value_eq_zero_of_finite v hv).1 hv0, (value_eq_zero_of_finite w hw).1 ?_⟩
  cases minus with
  | false => exact hw0
  | true => exact neg_eq_zero.1 hw0

/-- The sum with the sign of the second operand kept or inverted. -/
theorem addCore_sumOf (fmt : Fmt) (minus : Bool) {a b : Operand} (ha : isFinite a.x = true ∨ isInfinite a.x = true)
    (hb : isFinite b.x = true ∨ isInfinite b.x = true) :
    SumOf fmt minus a b (addCore fmt a b (negative b.x ^^ minus)) := by
  have hrat := rat_addend minus b.x
  have hden : 0 < (if (negative b.x ^^ minus) = signOf b.x then valOf b.x else (valOf b.x).neg).den := by
    split_ifs <;> exact valOf_den_pos b.x
  have hzero := zero_of_add_eq_zero (minus := minus) (v := a.x) (w := b.x)
  unfold SumOf addCore
  simp only []
  generalize (if (negative b.x ^^ minus) = signOf b.x then valOf b.x else (valOf b.x).neg) = vb at *
  generalize (if minus then -value b.x else value b.x) = y at *
  generalize (negative b.x ^^ minus) = sb at *
  have hsum : rat ((valOf a.x).add vb) = value a.x + y := by rw [rat_add _ _ (valOf_den_pos a.x) hden, rat_valOf, hrat]
  have hsumden := Ratio.add_den_pos _ _ (valOf_den_pos a.x) hden
  simp only [classOf_infinity, classOf_zero, Ratio.isZero_iff _ hsumden, Ratio.num_neg_iff _ hsumden, hsum, denFlag_eq,
    infF_eq_infinityOf, zeroF_eq_zeroOf, show signOf = negative from rfl]
  cases hai : isInfinite a.x with
  | true =>
    simp only [true_and, if_true]
    split_ifs
    · rfl
    · rw [← eq_infinityOf _ hai]
  | false =>
    simp only [Bool.false_eq_true, false_and, if_false]
    split_ifs with hbi hx
    · rfl
    · congr 2
      rw [Bool.eq_iff_iff, decide_eq_true_eq, Bool.and_eq_true]
      refine ⟨fun h => h.2.2, fun h => ?_⟩
      obtain ⟨haz, hbz⟩ := hzero (isFinite_of_number ha hai) (isFinite_of_number hb (by simpa using hbi)) hx h.1 h.2
      exact ⟨haz, hbz, h⟩
    · exact roundF_roundsTo fmt _ _ hsumden hsum hx

/-- The product of two numbers. -/
theorem fMul_productOf (fmt : Fmt) {a b : Operand} (ha : isFinite a.x = true ∨ isInfinite a.x = true)
    (hb : isFinite b.x = true ∨ isInfinite b.x = true) : ProductOf fmt a b (fMul fmt a b) := by
  unfold ProductOf fMul
  rw [preCheck_of_numbers ha hb]
  simp only [classOf_zero, classOf_infinity, Bool.or_eq_true, Bool.and_eq_true, denFlag_eq, infF_eq_infinityOf,
    zeroF_eq_zeroOf, show signOf = negative from rfl]
  split_ifs with hinvalid hinf hzero
  · rfl
  · rfl
  · rfl
  · simp only [not_or, Bool.not_eq_true] at hinf hzero
    refine roundF_roundsTo fmt _ _ (Ratio.mul_den_pos _ _ (valOf_den_pos _) (valOf_den_pos _)) ?_
      (mul_ne_zero (value_ne_zero (isFinite_of_number ha hinf.1) hzero.1)
        (value_ne_zero (isFinite_of_number hb hinf.2) hzero.2))
    rw [rat_mul, rat_valOf, rat_valOf]

/-- The quotient of two numbers. -/
theorem fDiv_quotientOf (fmt : Fmt) {a b : Operand} (ha : isFinite a.x = true ∨ isInfinite a.x = true)
    (hb : isFinite b.x = true ∨ isInfinite b.x = true) : QuotientOf fmt a b (fDiv fmt a b) := by
  unfold QuotientOf fDiv
  rw [preCheck_of_numbers ha hb]
  simp only [classOf_zero, classOf_infinity, Bool.or_eq_true, Bool.and_eq_true, denFlag_eq, infF_eq_infinityOf,
    zeroF_eq_zeroOf, show signOf = negative from rfl]
  have hinv : (indefinite, invalidOp) = invalidResult := rfl
  cases hai : isInfinite a.x with
  | true => cases hbi : isInfinite b.x <;> simp [isZero_of_isInfinite hai, hinv]
  | false =>
    cases hbi : isInfinite b.x with
    | true => simp [isZero_of_isInfinite hbi]
    | false =>
      cases haz : isZero a.x with
      | true => cases hbz : isZero b.x <;> simp [hinv]
      | false =>
        cases hbz : isZero b.x with
        | true => simp [zeroDivide, ExcFlags.or, ExcFlags.none, denormalFlag]
        | false =>
          simp only [Bool.false_eq_true, and_self, or_self, if_false]
          have hb0 := value_ne_zero (isFinite_of_number hb hbi) hbz
          have hnum : (valOf b.x).num ≠ 0 := fun h0 => hb0 (by rw [← rat_valOf, rat, h0, Int.cast_zero, zero_div])
          refine roundF_roundsTo fmt _ _ (Ratio.div_den_pos _ _ (valOf_den_pos _) hnum) ?_
            (div_ne_zero (value_ne_zero (isFinite_of_number ha hai) haz) hb0)
          rw [rat_div _ _ (valOf_den_pos _) hnum, rat_valOf, rat_valOf]

/-! ## `Compare` (46_x87_numerics R375) -/

/-- `cmpOrdered` by the predicates of the statements. -/
theorem cmpOrdered_eq (v w : F80) : cmpOrdered v w =
    if isInfinite v = true then
      if isInfinite w = true ∧ negative v = negative w then .eq else if negative v then .lt else .gt
    else if isInfinite w = true then (if negative w then .gt else .lt)
    else if value v < value w then .lt else if value w < value v then .gt else .eq := by
  have hlt := Ratio.lt_iff _ _ (valOf_den_pos v) (valOf_den_pos w)
  have hgt := Ratio.lt_iff _ _ (valOf_den_pos w) (valOf_den_pos v)
  rw [rat_valOf, rat_valOf] at hlt hgt
  simp only [← classOf_infinity, ← hlt, ← hgt, cmpOrdered]
  split
  next hv hw =>
    rw [if_pos hv]
    simp only [hw, true_and]
    rfl
  next hv hw =>
    rw [if_pos hv]
    simp only [show ¬classOf w = .infinity from hw, false_and, if_false]
    rfl
  next hw hv =>
    rw [if_neg hv, if_pos hw]
    rfl
  next hv hw _ => rw [if_neg hv, if_neg hw]

/-- The order of two datums that are numbers. -/
theorem cmpOrdered_below (v w : F80) : (cmpOrdered v w = .lt ↔ Below v w) ∧ (cmpOrdered v w = .gt ↔ Below w v)
    ∧ cmpOrdered v w ≠ .un := by
  rw [cmpOrdered_eq]
  unfold Below
  cases hv : isInfinite v <;> cases hw : isInfinite w
  · obtain hlt | heq | hgt := lt_trichotomy (value v) (value w)
    · simp [hv, hw, hlt, hlt.le]
    · simp [hv, hw, heq]
    · simp [hv, hw, hgt, hgt.not_gt]
  · cases hs : negative w <;> simp [hv, hw, hs]
  · cases hs : negative v <;> simp [hv, hw, hs]
  · cases hs : negative v <;> cases hs' : negative w <;> simp [hv, hw, hs, hs']

theorem fCompare_compareOf (a b : Operand) : CompareOf a b (fCompare a b) := by
  unfold CompareOf fCompare
  simp only [classOf_unsupported, classOf_isNaN, Bool.or_eq_true, or_assoc, denFlag_eq]
  split_ifs
  · rfl
  · exact ⟨rfl, cmpOrdered_below a.x b.x⟩

/-! ## `Sqrt` (46_x87_numerics R374) -/

/-- A root of x80 data is a number of x80: the exponent is halved. -/
theorem fitsFmt_of_rootRounds {v : F80} {n : Nat} {k : Int} (hf : isFinite v = true) (hpos : 0 < value v)
    (h : RootRounds (value v) n k) : FitsFmt .x80 (n * 2 ^ k) := by
  obtain ⟨hlo, hhi, h63, h64, -⟩ := h
  obtain ⟨-, -, -, -, -, hlt⟩ := fitsFmt_value hf
  have hleast : (2 : ℚ) ^ (-16445 : Int) ≤ |value v| := by
    have hsig : 1 ≤ sigField v := Nat.one_le_iff_ne_zero.2 (mt (value_eq_zero v).2 hpos.ne')
    rw [abs_value, ← one_mul ((2 : ℚ) ^ (-16445 : Int))]
    exact mul_le_mul (by exact_mod_cast hsig) (two_zpow_le (by omega)) (two_zpow_pos _).le (Nat.cast_nonneg _)
  have hsq (j : Nat) : ((2 : ℚ) ^ j * 2 ^ k) ^ 2 = 2 ^ (2 * (j + k)) := by
    rw [← zpow_natCast (2 : ℚ) j, ← two_zpow_add, mul_comm, zpow_mul, zpow_ofNat]
  rw [abs_of_pos hpos] at hlt hleast
  rw [hsq 63] at hlo
  rw [hsq 64] at hhi
  have hk := two_zpow_lt_iff.1 (hleast.trans_lt hhi)
  have hk' := two_zpow_lt_iff.1 (hlo.trans_lt hlt)
  rw [show Fmt.x80.emax = 16383 from rfl] at hk'
  refine fitsFmt_of_digits (fmt := .x80) (by exact_mod_cast h64) ?_ ?_
  · calc (2 : ℚ) ^ Fmt.x80.emin ≤ 2 ^ (63 + k) := two_zpow_le (by rw [show Fmt.x80.emin = -16382 from rfl]; omega)
      _ = (2 ^ 63 : Nat) * 2 ^ k := by rw [two_zpow_add, cast_two_pow]; rfl
      _ ≤ n * 2 ^ k := mul_le_mul_of_nonneg_right (by exact_mod_cast h63) (two_zpow_pos k).le
  · refine (natCast_mul_le k (p := 64) (by exact_mod_cast h64)).trans_lt (two_zpow_lt ?_)
    rw [show Fmt.x80.emax = 16383 from rfl]
    push_cast
    omega

/-- The operand that a slot gives. -/
theorem ofSlot_eq (v : F80) : Operand.ofSlot v = { x := v, denormal := isDenormal v, exc := .none } := by
  rw [Operand.ofSlot, classOf_denormal]

/-- `DE` and `PE` of a one-operand operation. -/
theorem denormal_or_inexact (d p : Bool) (f : ExcFlags) (hf : f = { ExcFlags.none with PE := p }) :
    (if d then denormalOp else ExcFlags.none).or f = { ExcFlags.none with DE := d, PE := p } := by
  subst hf
  cases d <;> cases p <;> rfl

theorem ite_inexact {b : Bool} {P : Prop} [Decidable P] (h : b = true ↔ P) :
    (if b then inexact else .none) = { ExcFlags.none with PE := decide P } := by
  obtain rfl : b = decide P := by rw [Bool.eq_iff_iff, h, decide_eq_true_eq]
  cases decide P <;> rfl

theorem fSqrt_rootOf (v : F80) : RootOf v (fSqrt (.ofSlot v)) := by
  unfold RootOf
  rw [ofSlot_eq]
  rcases kind_of_datum v with ⟨hu, hf, hi, hn⟩ | ⟨hu, hf, hi, hn⟩ | ⟨hu, hf, hi, hn⟩ | ⟨hu, hf, hi, hn⟩
  case inl =>
    rw [if_pos hu, fSqrt, (classOf_unsupported v).2 hu]
    rfl
  case inr.inr.inr =>
    rw [if_neg (by simp [hu]), if_pos hn, ← nanResult1_eq, fSqrt, classOf_of_isNaN hn]
    cases isSignaling v <;> rfl
  case inr.inr.inl =>
    have hz := isZero_of_isInfinite hi
    rw [fSqrt, (classOf_infinity v).2 hi, show signOf = negative from rfl]
    cases negative v with
    | false => simp [hu, hn, hz, hi]
    | true =>
      simp [hu, hn, hz]
      rfl
  case inr.inl =>
    cases hz : isZero v with
    | true => simp [hu, hn, fSqrt, (classOf_zero v).2 hz]
    | false =>
      have h0 := value_ne_zero hf hz
      have hclass : fSqrt { x := v, denormal := isDenormal v, exc := .none } = if negative v then (indefinite, invalidOp) else
          (encX80 false (sqrtMag (valOf v)).1,
            (if isDenormal v then denormalOp else .none).or (if (sqrtMag (valOf v)).2 then inexact else .none)) := by
        rw [fSqrt, classOf_of_isFinite hf hz]
        cases isDenormal v <;> rfl
      rw [hclass]
      cases hs : negative v with
      | true =>
        simp [hu, hn]
        rfl
      | false =>
        have hpos : 0 < value v := lt_of_le_of_ne (value_nonneg hs) h0.symm
        have hnum : 0 < (valOf v).num := by rwa [Ratio.num_pos_iff _ (valOf_den_pos v), rat_valOf]
        have hroot := rootRounds_rootDigits _ hnum (valOf_den_pos v)
        have hrat := rat_sqrtMag _ (valOf_den_pos v)
        have hinexact := sqrtMag_inexact_iff _ (valOf_den_pos v)
        rw [hrat] at hinexact
        rw [rat_valOf] at hroot hinexact
        simp only [hu, hn, hi, Bool.false_eq_true, if_false]
        refine ⟨rootDigits (valOf v), rootPlace (valOf v), hroot, ?_, denormal_or_inexact _ _ _ ?_⟩
        · exact encodes_encX80 false (sqrtMag_den_pos _ (valOf_den_pos v)) (by exact_mod_cast hrat)
            (by exact_mod_cast (fitsFmt_of_rootRounds hf hpos hroot).fitsX80)
        · exact ite_inexact (by exact_mod_cast hinexact)

/-! ## `RoundToInt` and `ToInteger` (46_x87_numerics R376, R377) -/

/-- A datum rounded to an integer is a number of x80: a large one is an integer already. -/
theorem fitsX80_of_roundedInt {rc : BitVec 2} {v : F80} {i : Int} (hf : isFinite v = true) (h : RoundedInt rc (value v) i) :
    FitsX80 |(i : ℚ)| := by
  have habs := abs_value v
  have hvalue : value v = (if negative v then -1 else 1) * (sigField v * 2 ^ (((max (expField v) 1 : Nat) : Int) - 16446)) := rfl
  generalize ((max (expField v) 1 : Nat) : Int) - 16446 = k at *
  obtain hk | hk := le_or_gt 0 k
  · have hint : value v = (((if negative v then -1 else 1) * (sigField v * 2 ^ k.toNat : Nat) : Int) : ℚ) := by
      rw [hvalue, Int.cast_mul, Int.cast_natCast, Nat.cast_mul, cast_two_pow, Int.toNat_of_nonneg hk]
      split_ifs <;> norm_num
    rw [hint] at h
    rw [h.eq_of_intCast, ← hint]
    exact (fitsFmt_value hf).fitsX80
  · have hsmall : |value v| < 2 ^ (63 : Int) := by
      rw [habs]
      exact (natCast_mul_lt k (sigField_lt v)).trans_le (two_zpow_le (by push_cast; omega))
    have hnear := h.abs_sub_lt
    have habsi : |(i : ℚ)| < 2 ^ (64 : Int) := by
      have htri : |(i : ℚ)| ≤ |value v| + |value v - i| := by
        calc |(i : ℚ)| = |value v - (value v - i)| := by congr 1; ring
          _ ≤ _ := abs_sub _ _
      have hnum : (2 : ℚ) ^ (63 : Int) + 1 < 2 ^ (64 : Int) := by norm_num
      linarith
    apply fitsX80_intCast
    rw [← Nat.cast_lt (α := ℚ), cast_two_pow, Nat.cast_natAbs, Int.cast_abs]
    exact habsi

/-- `PE` of a rounding to an integer. -/
theorem ite_eq_valOf (i : Int) (v : F80) :
    (if (Ratio.ofInt i).eq (valOf v) then .none else inexact) = { ExcFlags.none with PE := decide ((i : ℚ) ≠ value v) } := by
  have h := Ratio.eq_iff (Ratio.ofInt i) (valOf v) Nat.one_pos (valOf_den_pos v)
  rw [rat_ofInt, rat_valOf] at h
  by_cases hi : (i : ℚ) = value v
  · simp [h.2 hi, hi, ExcFlags.none]
  · simp [mt h.1 hi, hi, inexact, ExcFlags.none]

theorem roundedInt_valOf (rc : BitVec 2) (v : F80) : RoundedInt rc (value v) ((valOf v).roundTo rc) :=
  rat_valOf v ▸ roundTo_roundedInt rc (valOf v) (valOf_den_pos v)

theorem fRoundToInt_integralOf (rc : BitVec 2) (v : F80) : IntegralOf rc v (fRoundToInt rc (.ofSlot v)) := by
  unfold IntegralOf
  rw [ofSlot_eq]
  rcases kind_of_datum v with ⟨hu, hf, hi, hn⟩ | ⟨hu, hf, hi, hn⟩ | ⟨hu, hf, hi, hn⟩ | ⟨hu, hf, hi, hn⟩
  case inl =>
    rw [if_pos hu, fRoundToInt, (classOf_unsupported v).2 hu]
    rfl
  case inr.inr.inr =>
    rw [if_neg (by simp [hu]), if_pos hn, ← nanResult1_eq, fRoundToInt, classOf_of_isNaN hn]
    cases isSignaling v <;> rfl
  case inr.inr.inl => simp [hu, hn, hi, fRoundToInt, (classOf_infinity v).2 hi]
  case inr.inl =>
    cases hz : isZero v with
    | true => simp [hu, hn, fRoundToInt, (classOf_zero v).2 hz]
    | false =>
      have hround := roundedInt_valOf rc v
      have hresult : fRoundToInt rc { x := v, denormal := isDenormal v, exc := .none } =
          (encX80 (negative v) (Ratio.ofInt ((valOf v).roundTo rc).natAbs),
            { ExcFlags.none with DE := isDenormal v, PE := decide (((valOf v).roundTo rc : ℚ) ≠ value v) }) := by
        rw [fRoundToInt, classOf_of_isFinite hf hz, ← denormal_or_inexact _ _ _ (ite_eq_valOf _ v)]
        cases isDenormal v <;> rfl
      simp only [hu, hn, hi, Bool.false_eq_true, if_false, Bool.or_self, hresult]
      exact ⟨_, hround, encodes_ofInt _ (fitsX80_of_roundedInt hf hround), rfl⟩

theorem fToInteger_integerOf (k : Nat) (rc : BitVec 2) (v : F80) : IntegerOf k rc v (fToInteger k rc v) := by
  unfold IntegerOf
  rcases kind_of_datum v with ⟨hu, hf, hi, hn⟩ | ⟨hu, hf, hi, hn⟩ | ⟨hu, hf, hi, hn⟩ | ⟨hu, hf, hi, hn⟩
  case inl =>
    rw [if_pos hf, fToInteger, (classOf_unsupported v).2 hu]
    rfl
  case inr.inr.inr =>
    rw [if_pos hf, fToInteger, classOf_of_isNaN hn]
    cases isSignaling v <;> rfl
  case inr.inr.inl =>
    rw [if_pos hf, fToInteger, (classOf_infinity v).2 hi]
    rfl
  case inr.inl =>
    rw [if_neg (by simp [hf])]
    refine ⟨(valOf v).roundTo rc, roundedInt_valOf rc v, ?_⟩
    have hresult : fToInteger k rc v = if (valOf v).roundTo rc < -2 ^ (k - 1) ∨ 2 ^ (k - 1) ≤ (valOf v).roundTo rc then
        (intIndefinite k, invalidOp)
        else ((BitVec.ofInt k ((valOf v).roundTo rc)).toNat,
          { ExcFlags.none with PE := decide (((valOf v).roundTo rc : ℚ) ≠ value v) }) := by
      rw [← ite_eq_valOf, BitVec.toNat_ofInt, Nat.cast_pow, Nat.cast_ofNat]
      cases hz : isZero v with
      | true =>
        simp only [fToInteger, (classOf_zero v).2 hz, Int.sub_one_lt_iff]
      | false =>
        simp only [fToInteger, classOf_of_isFinite hf hz]
        cases isDenormal v <;> simp only [Bool.false_eq_true, if_true, if_false, Int.sub_one_lt_iff]
    rw [hresult]
    split_ifs <;> rfl

/-! ## The order of the operands (46_x87_numerics R349, R354) -/

theorem denFlag_comm (a b : Operand) : denFlag a b = denFlag b a := by
  rw [denFlag, denFlag, Bool.or_comm]

/-- Two NaNs of one significand and one sign are the same datum. -/
theorem nanResult_comm {a b : F80} (h : isNaN a = true ∨ isNaN b = true) : nanResult a b = nanResult b a := by
  rw [nanResult_eq, nanResult_eq, nanOf, nanOf, Bool.or_comm]
  congr 1
  cases ha : isNaN a <;> cases hb : isNaN b
  · simp [ha, hb] at h
  · simp
  · simp
  · simp only [Bool.true_eq_false, if_false]
    obtain hlt | heq | hgt := lt_trichotomy (sigField a) (sigField b)
    · simp [hlt.ne, hlt.ne', hlt, hlt.not_gt]
    · simp only [heq, ne_eq, not_true_eq_false, if_false]
      have hexp : expField a = expField b := by
        simp only [isNaN, decide_eq_true_eq] at ha hb
        rw [ha.1, hb.1]
      cases hsa : negative a <;> cases hsb : negative b
      · exact eq_of_fields (hsa.trans hsb.symm) hexp heq
      · simp
      · simp
      · exact (eq_of_fields (hsa.trans hsb.symm) hexp heq).symm
    · simp [hgt.ne, hgt.ne', hgt, hgt.not_gt]

theorem preCheck_comm (a b : Operand) : preCheck a b = preCheck b a := by
  simp only [preCheck, classOf_unsupported, classOf_isNaN, or_comm (a := isUnsupported a.x = true),
    Bool.or_comm (isNaN a.x)]
  split_ifs with hu hn
  · rfl
  · rw [nanResult_comm (by simpa [or_comm] using hn)]
  · rfl

theorem Ratio.add_comm (x y : Ratio) : x.add y = y.add x := by
  simp only [Ratio.add, Ratio.mk.injEq]
  exact ⟨Int.add_comm _ _, Nat.mul_comm _ _⟩

theorem Ratio.mul_comm (x y : Ratio) : x.mul y = y.mul x := by
  simp only [Ratio.mul, Ratio.mk.injEq]
  exact ⟨Int.mul_comm _ _, Nat.mul_comm _ _⟩

theorem addCore_comm (fmt : Fmt) (a b : Operand) : addCore fmt a b (signOf b.x) = addCore fmt b a (signOf a.x) := by
  unfold addCore
  simp only [if_true, denFlag_comm a b, Ratio.add_comm (valOf a.x)]
  by_cases ha : classOf a.x = .infinity <;> by_cases hb : classOf b.x = .infinity
  · by_cases hs : signOf a.x = signOf b.x
    · simp [ha, hb, hs]
    · simp [ha, hb, hs, Ne.symm hs]
  · simp [ha, hb]
  · simp [ha, hb]
  · simp only [ha, hb, if_false, and_left_comm, and_comm]

theorem fAdd_comm (fmt : Fmt) (a b : Operand) : fAdd fmt a b = fAdd fmt b a := by
  rw [fAdd, fAdd, preCheck_comm, addCore_comm]

theorem fMul_comm (fmt : Fmt) (a b : Operand) : fMul fmt a b = fMul fmt b a := by
  rw [fMul, fMul, preCheck_comm, denFlag_comm, Ratio.mul_comm, Bool.xor_comm]
  simp only [or_comm, and_comm]

/-! ## The statement -/

theorem fAdd_numericOp (fmt : Fmt) : NumericOp (fAdd fmt) (SumOf fmt false) :=
  numericOp_of_core (g := fun a b => addCore fmt a b (negative b.x ^^ false))
    (fun a b => by rw [Bool.xor_false]; rfl) fun _ _ => addCore_sumOf fmt false

theorem fSub_numericOp (fmt : Fmt) : NumericOp (fSub fmt) (SumOf fmt true) :=
  numericOp_of_core (g := fun a b => addCore fmt a b (negative b.x ^^ true))
    (fun a b => by rw [Bool.xor_true]; rfl) fun _ _ => addCore_sumOf fmt true

theorem fMul_numericOp (fmt : Fmt) : NumericOp (fMul fmt) (ProductOf fmt) :=
  numericOp_of_core (g := fMul fmt) (fun a b => by rw [fMul]; cases preCheck a b <;> rfl) fun _ _ => fMul_productOf fmt

theorem fDiv_numericOp (fmt : Fmt) : NumericOp (fDiv fmt) (QuotientOf fmt) :=
  numericOp_of_core (g := fDiv fmt) (fun a b => by rw [fDiv]; cases preCheck a b <;> rfl) fun _ _ => fDiv_quotientOf fmt

/-- Rounding a number of x80 gives its datum, with no flag. -/
theorem eq_of_roundsTo_value {v : F80} {d : ExcFlags} {res : F80 × ExcFlags} (hf : isFinite v = true)
    (hp : expField v = 0 → v.getLsbD 63 = false) (h : RoundsTo .x80 (value v) (negative v) d res) : res = (v, d.or .none) := by
  obtain ⟨r, f, hround, henc, hflags⟩ := h
  obtain ⟨rfl, rfl⟩ := rounds_of_fitsFmt (fitsFmt_value hf) hround
  exact Prod.ext (encodes_unique henc (encodes_self hf hp)) hflags

/-- `+0` added to a normal number is exact (46_x87_numerics R349). -/
theorem fAdd_zero {v : F80} (hv : classOf v = .normal) : fAdd .x80 (.ofSlot 0) (.ofSlot v) = (v, .none) := by
  obtain ⟨hf, hp⟩ := proper_of_classOf (.inr (.inl hv))
  have hi := (not_special_of_isFinite hf).2.1
  have hz : isZero v = false := by rw [← Bool.not_eq_true, ← classOf_zero, hv]; decide
  have hd : isDenormal v = false := by rw [← Bool.not_eq_true, ← isDenormal_iff_classOf, hv]; decide
  have h0 : value 0#80 = 0 := (value_eq_zero 0).2 (by decide)
  have hi0 : isInfinite 0#80 = false := by decide
  have hne := value_ne_zero hf hz
  have hsign : decide (value v < 0) = negative v := by
    cases hs : negative v with
    | false => simpa using value_nonneg hs
    | true => simpa using lt_of_le_of_ne (value_nonpos hs) hne
  have hsum := (fAdd_numericOp .x80 (.ofSlot 0) (.ofSlot v)).2.2 (.inl (by decide)) (.inl hf)
  have hflag : denormalFlag (.ofSlot 0) (.ofSlot v) = .none := by
    rw [ofSlot_eq, ofSlot_eq, hd, show isDenormal 0 = false by decide]
    rfl
  rw [SumOf, hflag] at hsum
  generalize fAdd .x80 (.ofSlot 0) (.ofSlot v) = res at *
  have hround : RoundsTo .x80 (value v) (negative v) .none res := by
    simpa [Operand.ofSlot, hi0, hi, h0, hne, hsign] using hsum
  exact eq_of_roundsTo_value hf hp hround

/-- Settles O40: each operation checks its operands, and rounds the exact result. -/
theorem addMulLaws : Obligations.AddMulLaws :=
  ⟨fun fmt => ⟨fAdd_numericOp fmt, fSub_numericOp fmt, fMul_numericOp fmt, fDiv_numericOp fmt⟩,
    fCompare_compareOf, fSqrt_rootOf, fRoundToInt_integralOf, fun k _ => fToInteger_integerOf k, ofSlot_eq,
    fun fmt a b => ⟨fAdd_comm fmt a b, fMul_comm fmt a b⟩, fun _ => fAdd_zero⟩

end Sys2Proof.Machine

/-! PROOFS of the statements about the x87 instructions (47_x87_instructions): the register stack; the control
instructions. -/

namespace Sys2Proof.Machine

open Sys2Proof.Spec

/-! ## The register stack (10_state R51, R52, 47_x87_instructions R391) -/

theorem Fpu.phys_eq (u : Fpu) (i : StIdx) : u.phys i = BitVec.ofNat 3 ((u.top.toNat + i.toNat) % 8) := by
  apply BitVec.eq_of_toNat_eq
  simp [Fpu.phys]

@[simp] theorem Slots.get_set_same (f : Slots) (k : BitVec 3) (x : Slot) : (f.set k x).get k = x := by
  rw [Slots.get_set, if_pos rfl]

theorem Slots.get_set_other (f : Slots) {k j : BitVec 3} (x : Slot) (h : j ≠ k) : (f.set k x).get j = f.get j := by
  rw [Slots.get_set, if_neg h]

/-- `ST(i+1)` after a push is the slot that was `ST(i)`, and the pushed slot is another but for the eighth. -/
theorem Fpu.slot_push {u : Fpu} {i : StIdx} (v : F80) (h : i ≠ 7) :
    (u.push v).fr.get ((u.push v).phys (i + 1)) = u.fr.get (u.phys i) := by
  have hphys : (u.push v).phys (i + 1) = u.phys i := by
    simp only [Fpu.phys, Fpu.push]
    bv_omega
  rw [hphys]
  refine Slots.get_set_other _ _ ?_
  simp only [Fpu.phys]
  bv_omega

/-- `ST(i-1)` after a pop is the slot that was `ST(i)`, and the popped slot is that of `ST(0)`. -/
theorem Fpu.slot_pop {u : Fpu} {i : StIdx} (h : i ≠ 0) : u.pop.fr.get (u.pop.phys (i - 1)) = u.fr.get (u.phys i) := by
  have hphys : u.pop.phys (i - 1) = u.phys i := by
    simp only [Fpu.phys, Fpu.pop]
    bv_omega
  rw [hphys]
  refine Slots.get_set_other _ _ ?_
  simp only [Fpu.phys]
  bv_omega

theorem Fpu.slot_push_zero (u : Fpu) (v : F80) :
    (u.push v).fr.get ((u.push v).phys 0) = { val := v, occupied := true } := by
  have hphys : (u.push v).phys 0 = u.top - 1 := BitVec.add_zero _
  rw [hphys]
  exact Slots.get_set_same _ _ _

theorem Fpu.slot_pop_top (u : Fpu) : u.pop.fr.get u.top = { u.fr.get u.top with occupied := false } :=
  Slots.get_set_same _ _ _

theorem Fpu.slot_setSt (u : Fpu) (i : StIdx) (v : F80) :
    (u.setSt i v).fr.get ((u.setSt i v).phys i) = { val := v, occupied := true } :=
  Slots.get_set_same _ _ _

/-- Settles O45: each of the three operations writes one slot, and the renumbering is arithmetic modulo 8. -/
theorem fpStackDiscipline : Obligations.FpStackDiscipline := by
  refine fun u v i => ⟨by rw [← u.phys_eq]; rfl, ?pushTop, congrArg Slot.val (u.slot_push_zero v),
    congrArg Slot.occupied (u.slot_push_zero v),
    fun h => ⟨congrArg Slot.val (Fpu.slot_push v h), congrArg Slot.occupied (Fpu.slot_push v h)⟩,
    ?popTop, (congrArg Slot.val u.slot_pop_top).symm, congrArg Slot.occupied u.slot_pop_top,
    fun h => ⟨congrArg Slot.val (Fpu.slot_pop h), congrArg Slot.occupied (Fpu.slot_pop h)⟩,
    congrArg Slot.val (u.slot_setSt i v), congrArg Slot.occupied (u.slot_setSt i v), rfl⟩
  case pushTop =>
    simp only [Fpu.push]
    bv_omega
  case popTop =>
    simp only [Fpu.pop]
    bv_omega

/-! ## Control (47_x87_instructions R446 to R455) -/

theorem Slots.get_emptyAll (f : Slots) (k : BitVec 3) : f.emptyAll.get k = { f.get k with occupied := false } := by
  unfold Slots.get
  split <;> rfl

theorem toNat_append_eq_add {m n : Nat} (h : BitVec m) (l : BitVec n) : (h ++ l).toNat = h.toNat * 2 ^ n + l.toNat := by
  rw [BitVec.toNat_append, ← Nat.shiftLeft_add_eq_or_of_lt l.isLt, Nat.shiftLeft_eq]

/-- The fields of the status word in their places (10_state R54). -/
theorem Fpu.statusWord_eq (u : Fpu) : u.statusWord = BitVec.ofNat 16 (statusOf u) := by
  have hnum : u.statusWord.toNat = statusOf u := by
    simp only [Fpu.statusWord, statusOf, toNat_append_eq_add, BitVec.toNat_ofBool, BitVec.toNat_ofNat]
    ring
  rw [← hnum, BitVec.ofNat_toNat, BitVec.setWidth_eq]

/-- Settles O35: each is one update of the state, the loads and stores of a word when it is in bounds. -/
theorem fpControl : Obligations.FpControl := by
  refine fun s => ⟨rfl, rfl, rfl, fun _ => rfl,
    ⟨_, rfl, rfl, rfl, rfl, rfl, rfl, s.fpu.fr.get_emptyAll⟩, rfl, ?statusToAx, fun m h => ⟨?load, ?control, ?status⟩⟩
  case statusToAx =>
    rw [← Fpu.statusWord_eq]
    rfl
  case load => exact congrArg finish (bind_of_ok (State.read16_ok h) _)
  case control => exact congrArg finish (State.write16_ok s.fpu.cw h)
  case status =>
    rw [← Fpu.statusWord_eq]
    exact congrArg finish (State.write16_ok s.fpu.statusWord h)

end Sys2Proof.Machine

/-! PROOFS of the statements about the x87 instructions (47_x87_instructions): what each shared operation answers once
the check of its slots has passed and its bytes are in bounds, and the forms that come of it. -/

namespace Sys2Proof.Machine

open Sys2Proof.Spec

/-! ## Flags that stay -/

theorem ExcFlags.or_none (x : ExcFlags) : x.or .none = x := by simp [ExcFlags.or, ExcFlags.none]

theorem Fpu.raise_none (u : Fpu) : u.raise .none = u := by rw [Fpu.raise, ExcFlags.or_none]

/-! ## Sources (46_x87_numerics R347, R350) -/

theorem State.fpSource_real {s : State} {m : Mem} (fmt : Fmt) (h : s.readable (s.sel m) (s.off m) fmt.bytes = true) :
    s.fpSource (.real fmt m) = .ok (fpReal fmt fmt.bytes s m) :=
  congrArg (Except.map (widen fmt)) (State.memRead_ok h)

theorem State.fpSource_int {s : State} {m : Mem} (n : Nat) (h : s.readable (s.sel m) (s.off m) n = true) :
    s.fpSource (.int (8 * n) m) = .ok (fpInt n s m) := by
  rw [State.fpSource, Nat.mul_div_cancel_left n (by decide), State.memRead_ok h]
  rfl

/-! ## The shared operations -/

section

variable {s : State} {m : Mem} {i : StIdx} {src : FpSrc} {b : Operand} {reads : List StIdx} {pushes : Bool}

/-- What follows a check that passes (47_x87_instructions R394). -/
theorem State.fpuCheck_bind (h : s.fpuReady reads pushes = true) (k : Unit → Except Fault State) :
    (s.fpuCheck reads pushes >>= k) = k () :=
  bind_of_ok (State.fpuCheck_ok h) k

theorem State.fpArith_ok (op : FpOp) (rev : Bool) (hr : s.fpuReady (0 :: src.slots) false = true)
    (hb : s.fpSource src = .ok b) :
    s.fpArith op rev src = .ok (fpResult s 0 (op.evalDir rev src.fmt (fpSlot s 0) b).1
      (b.exc.or (op.evalDir rev src.fmt (fpSlot s 0) b).2) 0) :=
  (State.fpuCheck_bind hr _).trans (bind_of_ok hb _)

theorem State.fpArithTo_ok (op : FpOp) (rev : Bool) (k : Nat) (hr : s.fpuReady [i, 0] false = true) :
    s.fpArithTo op rev i k = .ok (fpResult s i (op.evalDir rev .x80 (fpSlot s i) (fpSlot s 0)).1
      (op.evalDir rev .x80 (fpSlot s i) (fpSlot s 0)).2 k) :=
  State.fpuCheck_bind hr _

theorem State.fpLoad_ok (hr : s.fpuReady src.slots true = true) (hb : s.fpSource src = .ok b) :
    s.fpLoad src = .ok (fpPushed s b.x (b.exc.or (if b.denormal then denormalOp else .none))) :=
  (State.fpuCheck_bind hr _).trans (bind_of_ok hb _)

theorem State.setFpu_push (s : State) (v : F80) : s.setFpu (s.fpu.push v) = fpPushed s v .none := by
  rw [fpPushed, ExcFlags.or_none]
  rfl

theorem State.fpPush_ok (v : F80) (hr : s.fpuReady reads true = true) :
    s.fpPush reads v = .ok (fpPushed s v .none) := by
  rw [← State.setFpu_push]
  exact State.fpuCheck_bind hr _

theorem State.fpLoad80_ok (hr : s.fpuReady [] true = true) (hm : s.readable (s.sel m) (s.off m) 10 = true) :
    s.fpLoad80 m = .ok (fpPushed s (BitVec.ofNat 80 (s.mem.peekN (s.sel m) (s.off m) 10)) .none) := by
  have hread : s.readBits (s.sel m) (s.off m) 10 = .ok (BitVec.ofNat 80 (s.mem.peekN (s.sel m) (s.off m) 10)) :=
    congrArg (Except.map (BitVec.ofNat 80)) (State.memRead_ok hm)
  rw [← State.setFpu_push]
  exact (State.fpuCheck_bind hr _).trans (bind_of_ok hread _)

theorem State.fpStore_ok {n : Nat} (r : Nat × ExcFlags) (k : Nat) (hr : s.fpuReady [0] false = true)
    (hm : s.readable (s.sel m) (s.off m) n = true) :
    s.fpStore m n r k = .ok { s with
      mem := s.mem.pokeN (s.sel m) (s.off m) n r.1
      fpu := (s.fpu.raise r.2).popN k } :=
  (State.fpuCheck_bind hr _).trans (bind_of_ok (State.memWrite_ok r.1 hm) _)

theorem State.fpStoreSt_ok (k : Nat) (hr : s.fpuReady [0] false = true) :
    s.fpStoreSt i k = .ok (fpResult s i (s.fpu.st 0) .none k) := by
  rw [fpResult, Fpu.raise_none]
  exact State.fpuCheck_bind hr _

theorem State.fpUnary_ok (f : F80 → F80 × ExcFlags) (hr : s.fpuReady [0] false = true) :
    s.fpUnary f = .ok (fpResult s 0 (f (s.fpu.st 0)).1 (f (s.fpu.st 0)).2 0) :=
  State.fpuCheck_bind hr _

theorem Cmp.cond_eq_condOf (r : Cmp) : r.cond = condOf r := by cases r <;> rfl

theorem State.fpCompareWith_eq (s : State) (b : Operand) (k : Nat) : s.fpCompareWith b k = fpCompared s b k := by
  rw [fpCompared, ← Cmp.cond_eq_condOf]
  rfl

theorem State.fpCompare_ok (k : Nat) (hr : s.fpuReady (0 :: src.slots) false = true) (hb : s.fpSource src = .ok b) :
    s.fpCompare src k = .ok (fpCompared s b k) := by
  rw [← State.fpCompareWith_eq]
  exact (State.fpuCheck_bind hr _).trans (bind_of_ok hb _)

theorem State.fpTest_ok (hr : s.fpuReady [0] false = true) : s.fpTest = .ok (fpCompared s (.ofSlot 0) 0) := by
  rw [← State.fpCompareWith_eq]
  exact State.fpuCheck_bind hr _

end

/-! ## Loads (47_x87_instructions R400 to R410) -/

/-- Settles O28: each load is one push, of a source in bounds or of a value at hand. -/
theorem fpLoads : Obligations.FpLoads := by
  refine fun s => ⟨fun hr => ⟨fun m => ⟨fun hm => ?m32, fun hm => ?m64, fun hm => ?i16, fun hm => ?i32, fun hm => ?i64,
    fun hm => congrArg finish (State.fpLoad80_ok hr hm)⟩, ?constants⟩,
    fun i hr => congrArg finish (State.fpPush_ok _ hr)⟩
  case m32 => exact congrArg finish (State.fpLoad_ok hr (State.fpSource_real .b32 hm))
  case m64 => exact congrArg finish (State.fpLoad_ok hr (State.fpSource_real .b64 hm))
  case i16 => exact congrArg finish (State.fpLoad_ok hr (State.fpSource_int 2 hm))
  case i32 => exact congrArg finish (State.fpLoad_ok hr (State.fpSource_int 4 hm))
  case i64 => exact congrArg finish (State.fpLoad_ok hr (State.fpSource_int 8 hm))
  case constants =>
    have push (v : F80) : finish (s.fpPush [] v) = .next (fpPushed s v .none) := congrArg finish (State.fpPush_ok v hr)
    simp only [List.forall_mem_cons]
    exact ⟨push constOne, push constL2T, push constL2E, push constPi, push constLg2, push constLn2, push constZero,
      List.forall_mem_nil _⟩

/-! ## Stores (47_x87_instructions R411 to R414) -/

/-- An instruction that stores what `f` makes of `ST(0)`. -/
theorem fpStoreForm_of_exec {n k : Nat} {f : State → F80 → Nat × ExcFlags} {form : Mem → Instr}
    (hform : ∀ m s, exec (form m) s = finish (s.fpStore m n (f s (s.fpu.st 0)) k)) : FpStoreForm n f k form := by
  intro s m hr hm
  rw [hform, State.fpStore_ok _ k hr hm]
  rfl

/-- Settles O29: every store to memory is one store of a value made from `ST(0)`. -/
theorem fpStores : Obligations.FpStores :=
  ⟨fpStoreForm_of_exec fun _ _ => rfl, fpStoreForm_of_exec fun _ _ => rfl, fpStoreForm_of_exec fun _ _ => rfl,
    fpStoreForm_of_exec fun _ _ => rfl, fpStoreForm_of_exec fun _ _ => rfl, fpStoreForm_of_exec fun _ _ => rfl,
    fpStoreForm_of_exec fun _ _ => rfl, fpStoreForm_of_exec fun _ _ => rfl, fpStoreForm_of_exec fun _ _ => rfl,
    fpStoreForm_of_exec fun _ _ => rfl,
    fun _ _ hr => ⟨congrArg finish (State.fpStoreSt_ok 0 hr), congrArg finish (State.fpStoreSt_ok 1 hr)⟩⟩

/-! ## Arithmetic (47_x87_instructions R415 to R432) -/

/-- The seven forms of an operation, in the model's operation and the order of its operands. -/
theorem fpForms_of_exec (op : FpOp) (rev : Bool) {m32 m64 i16 i32 : Mem → Instr} {st sti stiPop : StIdx → Instr}
    (hm32 : ∀ m s, exec (m32 m) s = finish (s.fpArith op rev (.real .b32 m)))
    (hm64 : ∀ m s, exec (m64 m) s = finish (s.fpArith op rev (.real .b64 m)))
    (hst : ∀ i s, exec (st i) s = finish (s.fpArith op rev (.st i)))
    (hsti : ∀ i s, exec (sti i) s = finish (s.fpArithTo op rev i 0))
    (hpop : ∀ i s, exec (stiPop i) s = finish (s.fpArithTo op rev i 1))
    (hi16 : ∀ m s, exec (i16 m) s = finish (s.fpArith op rev (.int 16 m)))
    (hi32 : ∀ m s, exec (i32 m) s = finish (s.fpArith op rev (.int 32 m))) :
    FpForms (op.evalDir rev) m32 m64 st sti stiPop i16 i32 := by
  refine ⟨fun s m hr hm => ?_, fun s m hr hm => ?_, fun s i hr => ?_, fun s i hr => ?_, fun s i hr => ?_,
    fun s m hr hm => ?_, fun s m hr hm => ?_⟩
  · exact (hm32 m s).trans (congrArg finish (State.fpArith_ok op rev hr (State.fpSource_real .b32 hm)))
  · exact (hm64 m s).trans (congrArg finish (State.fpArith_ok op rev hr (State.fpSource_real .b64 hm)))
  · exact (hst i s).trans (congrArg finish (State.fpArith_ok op rev (src := .st i) (b := fpSlot s i) hr rfl))
  · exact (hsti i s).trans (congrArg finish (State.fpArithTo_ok op rev 0 hr))
  · exact (hpop i s).trans (congrArg finish (State.fpArithTo_ok op rev 1 hr))
  · exact (hi16 m s).trans (congrArg finish (State.fpArith_ok op rev hr (State.fpSource_int 2 hm)))
  · exact (hi32 m s).trans (congrArg finish (State.fpArith_ok op rev hr (State.fpSource_int 4 hm)))

/-- Settles O30: the rows of `FADD`, `FSUB` and `FSUBR` are the seven forms of one operation each. -/
theorem fpAddSub : Obligations.FpAddSub :=
  ⟨fpForms_of_exec .add false (fun _ _ => rfl) (fun _ _ => rfl) (fun _ _ => rfl) (fun _ _ => rfl) (fun _ _ => rfl)
      (fun _ _ => rfl) (fun _ _ => rfl),
    fpForms_of_exec .sub false (fun _ _ => rfl) (fun _ _ => rfl) (fun _ _ => rfl) (fun _ _ => rfl) (fun _ _ => rfl)
      (fun _ _ => rfl) (fun _ _ => rfl),
    fpForms_of_exec .sub true (fun _ _ => rfl) (fun _ _ => rfl) (fun _ _ => rfl) (fun _ _ => rfl) (fun _ _ => rfl)
      (fun _ _ => rfl) (fun _ _ => rfl)⟩

/-- Settles O31: as O30, for `FMUL`, `FDIV` and `FDIVR`. -/
theorem fpMulDiv : Obligations.FpMulDiv :=
  ⟨fpForms_of_exec .mul false (fun _ _ => rfl) (fun _ _ => rfl) (fun _ _ => rfl) (fun _ _ => rfl) (fun _ _ => rfl)
      (fun _ _ => rfl) (fun _ _ => rfl),
    fpForms_of_exec .div false (fun _ _ => rfl) (fun _ _ => rfl) (fun _ _ => rfl) (fun _ _ => rfl) (fun _ _ => rfl)
      (fun _ _ => rfl) (fun _ _ => rfl),
    fpForms_of_exec .div true (fun _ _ => rfl) (fun _ _ => rfl) (fun _ _ => rfl) (fun _ _ => rfl) (fun _ _ => rfl)
      (fun _ _ => rfl) (fun _ _ => rfl)⟩

/-! ## Compares (47_x87_instructions R433 to R438) -/

theorem fpCompareForm_real {fmt : Fmt} {k : Nat} {form : Mem → Instr}
    (hform : ∀ m s, exec (form m) s = finish (s.fpCompare (.real fmt m) k)) :
    FpCompareForm fmt.bytes (fpReal fmt fmt.bytes) k form :=
  fun s m hr hm => (hform m s).trans (congrArg finish (State.fpCompare_ok k hr (State.fpSource_real fmt hm)))

theorem fpCompareForm_int {n k : Nat} {form : Mem → Instr}
    (hform : ∀ m s, exec (form m) s = finish (s.fpCompare (.int (8 * n) m) k)) : FpCompareForm n (fpInt n) k form :=
  fun s m hr hm => (hform m s).trans (congrArg finish (State.fpCompare_ok k hr (State.fpSource_int n hm)))

theorem finish_fpCompare_st {s : State} {i : StIdx} (k : Nat) (hr : s.fpuReady [0, i] false = true) :
    finish (s.fpCompare (.st i) k) = .next (fpCompared s (fpSlot s i) k) :=
  congrArg finish (State.fpCompare_ok (src := .st i) k hr rfl)

/-- Settles O32: every compare is one compare with a source, `FTST` with `+0.0`. -/
theorem fpCompares : Obligations.FpCompares :=
  ⟨fpCompareForm_real (fmt := .b32) fun _ _ => rfl, fpCompareForm_real (fmt := .b64) fun _ _ => rfl,
    fpCompareForm_real (fmt := .b32) fun _ _ => rfl, fpCompareForm_real (fmt := .b64) fun _ _ => rfl,
    fpCompareForm_int fun _ _ => rfl, fpCompareForm_int fun _ _ => rfl, fpCompareForm_int fun _ _ => rfl,
    fpCompareForm_int fun _ _ => rfl, fun _ _ hr => ⟨finish_fpCompare_st 0 hr, finish_fpCompare_st 1 hr⟩,
    fun _ hr => finish_fpCompare_st 2 hr, fun _ hr => congrArg finish (State.fpTest_ok hr)⟩

end Sys2Proof.Machine

/-! PROOFS of the statements about the x87 instructions (47_x87_instructions): the one-operand instructions and the
exchange; the classes of `FXAM`. -/

namespace Sys2Proof.Machine

open Sys2Proof.Spec

/-! ## Sign, root, rounding, exchange (47_x87_instructions R441 to R445) -/

/-- A datum is its sign bit before the 79 others (46_x87_numerics R341). -/
theorem sign_append_rest (v : F80) : BitVec.ofBool (v.getLsbD 79) ++ v.extractLsb' 0 79 = v := by
  have hsign : v.extractLsb' 79 1 = BitVec.ofBool (v.getLsbD 79) := by
    apply BitVec.eq_of_getLsbD_eq
    intro k hk
    obtain rfl : k = 0 := by omega
    simp
  rw [← hsign]
  exact BitVec.extractLsb'_append_extractLsb'

theorem xor_signBit (v : F80) :
    v ^^^ 0x80000000000000000000 = BitVec.ofBool (!v.getLsbD 79) ++ v.extractLsb' 0 79 := by
  conv_lhs => rw [← sign_append_rest v, show (0x80000000000000000000 : F80) = 1#1 ++ 0#79 from rfl, BitVec.xor_append,
    BitVec.xor_zero]
  cases v.getLsbD 79 <;> rfl

theorem and_notSignBit (v : F80) : v &&& 0x7FFFFFFFFFFFFFFFFFFF = 0#1 ++ v.extractLsb' 0 79 := by
  conv_lhs => rw [← sign_append_rest v, show (0x7FFFFFFFFFFFFFFFFFFF : F80) = 0#1 ++ BitVec.allOnes 79 from rfl,
    BitVec.and_append, BitVec.and_zero, BitVec.and_allOnes]

/-- An instruction that replaces `ST(0)` by what `f` makes of it. -/
theorem fpUnaryForm_of_exec {f : State → F80 → F80 × ExcFlags} {i : Instr}
    (hexec : ∀ s, exec i s = finish (s.fpUnary (f s))) : FpUnaryForm f i :=
  fun s hr => (hexec s).trans (congrArg finish (State.fpUnary_ok (f s) hr))

/-- Settles O34: each is the one-operand operation, the sign a matter of bit 79; the exchange writes both slots. -/
theorem fpSignRootRoundExchange : Obligations.FpSignRootRoundExchange := by
  refine ⟨fpUnaryForm_of_exec fun s => ?chs, fpUnaryForm_of_exec fun s => ?abs, fpUnaryForm_of_exec fun _ => rfl,
    fpUnaryForm_of_exec fun _ => rfl, fun _ _ hr => congrArg finish (State.fpuCheck_bind hr _)⟩
  case chs =>
    simp only [← xor_signBit]
    rfl
  case abs =>
    simp only [← and_notSignBit]
    rfl

/-! ## `FXAM` (47_x87_instructions R440) -/

/-- The row of a class of an occupied slot, under a sign (47_x87_instructions R440). -/
def classRow (sign : Bool) : FClass → CondBits
  | .unsupported => { C0 := false, C1 := sign, C2 := false, C3 := false }
  | .quietNaN | .signalingNaN => { C0 := true, C1 := sign, C2 := false, C3 := false }
  | .normal => { C0 := false, C1 := sign, C2 := true, C3 := false }
  | .infinity => { C0 := true, C1 := sign, C2 := true, C3 := false }
  | .zero => { C0 := false, C1 := sign, C2 := false, C3 := true }
  | .denormal => { C0 := false, C1 := sign, C2 := true, C3 := true }

theorem Fpu.examine_empty {u : Fpu} (ho : u.occupied 0 = false) :
    u.examine = { C0 := true, C1 := signOf (u.st 0), C2 := false, C3 := true } := by
  rw [Fpu.examine, ho]
  rfl

theorem Fpu.examine_occupied {u : Fpu} {k : FClass} (ho : u.occupied 0 = true) (hk : classOf (u.st 0) = k) :
    u.examine = classRow (signOf (u.st 0)) k := by
  simp only [Fpu.examine, ho, hk]
  rfl

theorem classRow_of_isNaN {k : FClass} (sign : Bool) (h : k.isNaN = true) :
    classRow sign k = { C0 := true, C1 := sign, C2 := false, C3 := false } := by
  cases k with
  | quietNaN | signalingNaN => rfl
  | zero | denormal | normal | infinity | unsupported => cases h

theorem classOf_normal_of_fields {v : F80} (he : 1 ≤ expField v) (he' : expField v < 0x7FFF)
    (hj : v.getLsbD 63 = true) : classOf v = .normal := by
  have hf : isFinite v = true := decide_eq_true (.inr ⟨he', hj⟩)
  have hz : isZero v = false := decide_eq_false fun h => by omega
  have hd : isDenormal v = false := decide_eq_false fun h => by omega
  rw [classOf_of_isFinite hf hz, hd]
  rfl

/-- Settles O33: the first row is the tag's, the others those of the classes, each read off its bits. -/
theorem fpExamine : Obligations.FpExamine := by
  intro s v e sig j answers
  have row {c : CondBits} (h : s.fpu.examine = c) :
      exec .fxam s = .next { s with fpu := { s.fpu with cond := c } } := by rw [← h]; rfl
  refine ⟨fun ho => row (Fpu.examine_empty ho), fun ho => ?_⟩
  have rowOf {k : FClass} (hk : classOf v = k) := row (Fpu.examine_occupied ho hk)
  refine ⟨fun he hj => ?unsupported, fun he hg => ?nan, fun he he' hj => ?normal, fun he hg => ?infinity,
    fun he hg => ?zero, fun he hg => ?denormal⟩
  case unsupported => exact rowOf ((classOf_unsupported v).2 (decide_eq_true ⟨he, hj⟩))
  case nan =>
    have hn : (classOf v).isNaN = true := (classOf_isNaN v).trans (decide_eq_true ⟨he, hg⟩)
    exact row ((Fpu.examine_occupied ho rfl).trans (classRow_of_isNaN _ hn))
  case normal => exact rowOf (classOf_normal_of_fields he he' hj)
  case infinity => exact rowOf ((classOf_infinity v).2 (decide_eq_true ⟨he, hg⟩))
  case zero => exact rowOf ((classOf_zero v).2 (decide_eq_true ⟨he, hg⟩))
  case denormal => exact rowOf ((isDenormal_iff_classOf v).2 (decide_eq_true ⟨he, hg⟩))

end Sys2Proof.Machine

/-! PROOFS of the statements about the x87 instructions (47_x87_instructions): when the check of the slots fails; what
of the x87 state and of the rest of the machine an instruction may change. -/

namespace Sys2Proof.Machine

open Sys2Proof.Spec

/-! ## `FpuStackFault` (47_x87_instructions R392, R394) -/

theorem State.fpuReady_nil (s : State) : s.fpuReady [] false = true := by simp [State.fpuReady]

theorem State.fpuReady_swap (s : State) (i j : StIdx) (pushes : Bool) :
    s.fpuReady [i, j] pushes = s.fpuReady [j, i] pushes := by
  simp [State.fpuReady, Bool.and_comm]

theorem State.fpuReady_eq_false {s : State} {reads : List StIdx} {pushes : Bool} :
    s.fpuReady reads pushes = false ↔ s.params.ringPolicy = .fault
      ∧ ((∃ k ∈ reads, s.fpu.occupied k = false)
        ∨ (pushes = true ∧ (s.fpu.fr.get (s.fpu.top - 1)).occupied = true)) := by
  unfold State.fpuReady
  cases s.params.ringPolicy with
  | wrap => simp
  | fault => simp [Decidable.imp_iff_not_or]

theorem finish_eq_fault {o : Except Fault State} {f : Fault} : finish o = .fault f ↔ o = .error f := by
  cases o <;> simp [finish]

theorem Framed.ne_fpuStack {c : Scope} {W : Word → Word → Prop} {s : State} {o : Except Fault State}
    (h : Framed c W s o) : o ≠ .error .fpuStack := by
  rintro rfl
  exact h

/-- The body of an instruction faults for its slots exactly when they fail the check (LOG 14). -/
def Checked (i : Instr) (s : State) : Prop :=
  exec i s = .fault .fpuStack ↔ s.fpuReady (slotsRead i) (pushesFp i) = false

theorem checked_of_fpFramed {i : Instr} {s : State} {o : Except Fault State} {c : Scope} {W : Word → Word → Prop}
    {reads : List StIdx} {pushes : Bool} (e : exec i s = finish o) (h : FpFramed c W s reads pushes o)
    (hs : slotsRead i = reads) (hp : pushesFp i = pushes) : Checked i s := by
  rw [Checked, e, finish_eq_fault, hs, hp]
  rcases h with ⟨hr, hf⟩ | ⟨hr, ho⟩
  · simp [hr, hf.ne_fpuStack]
  · simp [hr, ho]

theorem checked_of_fpArithTo {i : Instr} {s : State} {k : StIdx} {op : FpOp} {rev : Bool} {pops : Nat}
    (hs : slotsRead i = [0, k]) (hp : pushesFp i = false) (e : exec i s = finish (s.fpArithTo op rev k pops)) :
    Checked i s := by
  have h := fpFramed_fpArithTo s op rev k pops
  rw [FpFramed, State.fpuReady_swap] at h
  exact checked_of_fpFramed e h hs hp

/-- An instruction that has no slot to check. -/
theorem checked_of_noSlots {i : Instr} {s : State} (hs : slotsRead i = []) (hp : pushesFp i = false)
    (h : exec i s ≠ .fault .fpuStack) : Checked i s := by
  simp [Checked, hs, hp, State.fpuReady_nil, h]

theorem checked_of_framed {i : Instr} {s : State} {o : Except Fault State} {c : Scope} {W : Word → Word → Prop}
    (hs : slotsRead i = []) (hp : pushesFp i = false) (e : exec i s = finish o) (h : Framed c W s o) : Checked i s :=
  checked_of_noSlots hs hp fun hf => h.ne_fpuStack (finish_eq_fault.1 (e.symm.trans hf))

/-- No other fault is that of the slots, and no instruction but an x87 one raises it (`keeps_body`). -/
theorem checked_of_not_x87 {i : Instr} {s : State} (hs : slotsRead i = []) (hp : pushesFp i = false)
    (hx : bodyIsX87 i = false) (hk : Keeps i s) : Checked i s := by
  refine checked_of_noSlots hs hp fun hf => ?_
  rw [Keeps, hf] at hk
  rcases hk with hm | ⟨hx', -, -⟩
  · exact hm
  · rw [hx] at hx'
    cases hx'

/-- The case split over the instructions: each x87 operation checks the slots of the table first. -/
theorem checked_body (i : Instr) (s : State) : Checked i.body s := by
  induction i with
  -- Under its own prefixes an instruction has the same body.
  | esPrefix _ ih | csPrefix _ ih | ssPrefix _ ih | dsPrefix _ ih | lockPrefix _ ih | repnePrefix _ ih
  | repPrefix _ ih => exact ih
  | faddM32 _ | fmulM32 _ | fsubM32 _ | fsubrM32 _ | fdivM32 _ | fdivrM32 _ | faddM64 _ | fmulM64 _ | fsubM64 _
  | fsubrM64 _ | fdivM64 _ | fdivrM64 _ | fiaddM32 _ | fimulM32 _ | fisubM32 _ | fisubrM32 _ | fidivM32 _
  | fidivrM32 _ | fiaddM16 _ | fimulM16 _ | fisubM16 _ | fisubrM16 _ | fidivM16 _ | fidivrM16 _ | faddStSti _
  | fmulStSti _ | fsubStSti _ | fsubrStSti _ | fdivStSti _ | fdivrStSti _ =>
    exact checked_of_fpFramed rfl (fpFramed_fpArith s _ _ _) rfl rfl
  | faddStiSt _ | fmulStiSt _ | fsubrStiSt _ | fsubStiSt _ | fdivrStiSt _ | fdivStiSt _ | faddpStiSt _ | fmulpStiSt _
  | fsubrpStiSt _ | fsubpStiSt _ | fdivrpStiSt _ | fdivpStiSt _ => exact checked_of_fpArithTo rfl rfl rfl
  | fcomM32 _ | fcompM32 _ | fcomM64 _ | fcompM64 _ | ficomM32 _ | ficompM32 _ | ficomM16 _ | ficompM16 _ | fcomSti _
  | fcompSti _ | fcompp => exact checked_of_fpFramed rfl (fpFramed_fpCompare s _ _) rfl rfl
  | ftst => exact checked_of_fpFramed rfl (fpFramed_fpTest s) rfl rfl
  | fldM32 _ | fldM64 _ | fildM16 _ | fildM32 _ | fildM64 _ =>
    exact checked_of_fpFramed rfl (fpFramed_fpLoad s _) rfl rfl
  | fldM80 m => exact checked_of_fpFramed rfl (fpFramed_fpLoad80 s m) rfl rfl
  | fldSti _ | fld1 | fldl2t | fldl2e | fldpi | fldlg2 | fldln2 | fldz =>
    exact checked_of_fpFramed rfl (fpFramed_fpPush s _ _) rfl rfl
  | fstM32 m | fstpM32 m | fstM64 m | fstpM64 m =>
    exact checked_of_fpFramed rfl (fpFramed_fpStoreReal s _ m _) rfl rfl
  | fistM16 m | fistpM16 m => exact checked_of_fpFramed rfl (fpFramed_fpStoreInt s 16 m _ (by decide)) rfl rfl
  | fistM32 m | fistpM32 m => exact checked_of_fpFramed rfl (fpFramed_fpStoreInt s 32 m _ (by decide)) rfl rfl
  | fistpM64 m => exact checked_of_fpFramed rfl (fpFramed_fpStoreInt s 64 m _ (by decide)) rfl rfl
  | fstpM80 m => exact checked_of_fpFramed rfl (fpFramed_fpStore s m 10 _ _ (by decide)) rfl rfl
  | fstSti i | fstpSti i => exact checked_of_fpFramed rfl (fpFramed_fpStoreSt s i _) rfl rfl
  | fchs | fabs | fsqrt | frndint => exact checked_of_fpFramed rfl (fpFramed_fpUnary s _) rfl rfl
  | fxchSti i => exact checked_of_fpFramed rfl (fpFramed_fpExchange s i) rfl rfl
  -- No tag is looked at (47_x87_instructions R394, R440, R446 to R455).
  | fldcwM16 m => exact checked_of_framed rfl rfl rfl (framed_fpLoadControl s m)
  | fnstcwM16 _ | fnstswM16 _ => exact checked_of_framed rfl rfl rfl (framed_fpWord s _ _ _)
  | fnop | fxam | fdecstp | fincstp | fnclex | fninit | ffreeSti _ | fnstswAx =>
    exact checked_of_noSlots rfl rfl fun h => nomatch h
  -- The rest are not x87 instructions.
  | _ => exact checked_of_not_x87 rfl rfl rfl (keeps_body _ s)

/-- Settles O36: the check of the slots that the table names comes first, and nothing else raises this fault. -/
theorem fpuStackFaults : Obligations.FpuStackFaults := by
  intro i s
  rw [exec_eq_exec_body, ← State.fpuReady_eq_false]
  exact checked_body i s

/-! ## The x87 state and the rest of the machine (47_x87_instructions R395, R396, 46_x87_numerics R360) -/

theorem Flags.eq_of_get {f g : Flags} (h : ∀ x, f.get x = g.get x) : f = g := by
  have parts (f : Flags) : f = ⟨f.get .CF, f.get .PF, f.get .AF, f.get .ZF, f.get .SF, f.get .TF, f.get .IF, f.get .DF,
    f.get .OF⟩ := rfl
  rw [parts f, parts g]
  simp only [h]

theorem SegRegs.eq_of_get {f g : SegRegs} (h : ∀ x, f.get x = g.get x) : f = g := by
  have parts (f : SegRegs) : f = ⟨f.get .es, f.get .cs, f.get .ss, f.get .ds⟩ := rfl
  rw [parts f, parts g]
  simp only [h]

theorem Gpr.eq_of_get {f g : Gpr} (h : ∀ x, f.get x = g.get x) : f = g := by
  have parts (f : Gpr) : f = ⟨f.get .ax, f.get .cx, f.get .dx, f.get .bx, f.get .sp, f.get .bp, f.get .si,
    f.get .di⟩ := rfl
  rw [parts f, parts g]
  simp only [h]

/-- Registers that differ in `AX` only. -/
theorem Gpr.eq_of_get_of_ne_ax {f g : Gpr} (h : ∀ x, x ≠ .ax → f.get x = g.get x) : f = { g with ax := f.ax } := by
  refine Gpr.eq_of_get fun x => ?_
  rw [show ({ g with ax := f.ax } : Gpr) = g.set .ax f.ax from rfl, Gpr.get_set]
  split_ifs with hx
  · rw [hx]
    rfl
  · exact h x hx

/-- The tables leave an x87 instruction no flag, no segment register and no jump. -/
theorem tables_of_x87 {i : Instr} (h : bodyIsX87 i = true) :
    bodyFlags i = [] ∧ bodySegs i = [] ∧ bodyTransfers i = false := by
  have table : (!bodyIsX87 i || ((bodyFlags i).isEmpty && (bodySegs i).isEmpty && !bodyTransfers i)) = true := by
    cases i <;> rfl
  simpa [h, and_assoc] using table

/-- And no general register but the `AX` of `FNSTSW AX` (47_x87_instructions R455). -/
theorem bodyRegs_of_x87 {i : Instr} (h : bodyIsX87 i = true) : i = .fnstswAx ∨ bodyRegs i = [] := by
  have table : i = .fnstswAx ∨ (!bodyIsX87 i || (bodyRegs i).isEmpty) = true := by
    cases i with
    | fnstswAx => exact .inl rfl
    | _ => exact .inr rfl
  simpa [h] using table

theorem bodyWritesCw_of_ne {i : Instr} (hload : ∀ m, i ≠ .fldcwM16 m) (hinit : i ≠ .fninit) :
    bodyWritesCw i = false := by
  unfold bodyWritesCw
  split
  · exact absurd rfl (hload _)
  · exact absurd rfl hinit
  · rfl

theorem bodyClears_of_ne {i : Instr} (hclear : i ≠ .fnclex) (hinit : i ≠ .fninit) : bodyClears i = false := by
  unfold bodyClears
  split
  · exact absurd rfl hclear
  · exact absurd rfl hinit
  · rfl

/-- A frame in the scope of an x87 instruction. -/
theorem Frame.of_x87 {i : Instr} {W : Word → Word → Prop} {s t : State} (hf : Frame (bodyScope i) W s t)
    (hx : bodyIsX87 i = true) : t.flags = s.flags ∧ t.sreg = s.sreg ∧ t.ip = s.ip
      ∧ (i ≠ .fnstswAx → t.gpr = s.gpr) ∧ t.gpr = { s.gpr with ax := t.gpr.ax } := by
  obtain ⟨hflags, hsegs, hip⟩ := tables_of_x87 hx
  refine ⟨Flags.eq_of_get fun f => hf.flags f ?flag, SegRegs.eq_of_get fun g => hf.segs g ?seg, hf.ip hip,
    fun hi => Gpr.eq_of_get fun r => hf.regs r ?reg, Gpr.eq_of_get_of_ne_ax fun r hr => hf.regs r ?other⟩
  case flag => simp [bodyScope, hflags]
  case seg => simp [bodyScope, hsegs]
  case reg => simp [bodyScope, (bodyRegs_of_x87 hx).resolve_left hi]
  case other =>
    rcases bodyRegs_of_x87 hx with rfl | hregs
    · simpa [bodyScope, show bodyRegs .fnstswAx = [.ax] from rfl] using hr
    · simp [bodyScope, hregs]

/-- Settles O50, from the frame of every instruction: its scope is that of the tables. -/
theorem x87Isolated : Obligations.X87Isolated := by
  intro i s t hh h
  have hf := exec_frame hh h
  exact ⟨hf.fpu, hf.of_x87, hf.cond, fun hclear hinit => hf.sticky (bodyClears_of_ne hclear hinit),
    fun hload hinit => hf.cw (bodyWritesCw_of_ne hload hinit)⟩

end Sys2Proof.Machine

/-! PROOFS of the statements about exceptions (60_exceptions): what an instruction can fault with, and that it never
refuses. -/

namespace Sys2Proof.Machine

/-! ## What every instruction can stop with -/

theorem exec_ne_refused (i : Instr) (s : State) (r : Refusal) : exec i s ≠ .refused r := by
  intro h
  have hk := keeps_body i s
  rwa [Keeps, ← exec_eq_exec_body, h] at hk

theorem exec_mayFault {i : Instr} {s : State} {f : Fault} (h : exec i s = .fault f) : MayFault i.body s f := by
  have hk := keeps_body i s
  rwa [Keeps, ← exec_eq_exec_body, h] at hk

/-- Settles O52, from `keeps_body`: a fault is one that `MayFault` allows, misplaced or of the x87 check (60_exceptions
R460, R464). -/
theorem faultsNamed : Obligations.FaultsNamed := by
  refine fun i s => ⟨exec_ne_refused i s, fun f h => ?_⟩
  rcases exec_mayFault h with hm | ⟨hx, hp, rfl⟩
  · cases f with
    | addressing sel off => exact hm
    | invalidOpcode a b => exact hm
    | fpuStack => exact hm.elim
  · exact ⟨hx, hp⟩

end Sys2Proof.Machine
